-- ==== Sys2Proof/Word.lean ====
section
/-!
DEFINITION. The word types of the block and the plainest arithmetic on them (spec/00_scope.md R6, R7).

The widths the source or the spec FIXES are bit vectors here: an assembled byte (8), a quad nibble (4), the sample
value (16). The widths the spec leaves OPEN (`TS_W`, `CC_W`, `TC_W`) are data of the instance (`Sys2Proof.Params` in
Config.lean), so a timestamp and a counter are natural numbers that every operation keeps below `2 ^ width`.
-/
namespace Sys2Proof

/-- An assembled byte, a command code, a register address or a value: 8 bits (R6, "byte width"). -/
abbrev Byte := BitVec 8

/-- The data of one quad-wire clock: 4 bits (R6, "nibble width"). -/
abbrev Nibble := BitVec 4

/-- The sample value: 16 bits (R6, `SAMPLE_W`; R70). -/
abbrev SampleWord := BitVec 16

/-- The sample value without its chip-select flag: bits 14:0 (R70). -/
abbrev SampleData := BitVec 15

/-- `trunc_w(n)`: the low `w` bits of `n` (R7). -/
def trunc (w n : Nat) : Nat := n % 2 ^ w

/-- The largest unsigned number of `w` bits, `2 ^ w - 1` (R6). -/
def maxOf (w : Nat) : Nat := 2 ^ w - 1

end Sys2Proof
end

