-- ==== Sys2Proof/Config.lean ====
section
/-!
DEFINITION. What is fixed for the life of one instance of the block (spec/00_scope.md R6, spec/10_state.md R35), and the
free values of the model.

* The three enumerations that the output record and the configuration range over: R84, R85, R86.
* `Params`: the parameters marked OPEN in R6. R35: "a model takes them as parameters of the step relation". The step
  of this package takes only a state, so the state carries them in a field that no operation writes.
* Fixed constants of R6.
* The free values: opaque constants, of which nothing can be proved.
-/
namespace Sys2Proof

/-- The kind of a record (spec/30_encoding.md R84), in the order of the codes 0 to 5. -/
inductive Kind where
  | readRegister
  | writeRegister
  | setOffset
  | readFifo
  | readDeviceId
  | error
  deriving DecidableEq, Repr

/-- The verbosity selector (spec/10_state.md R34; codes 0 to 3 of spec/30_encoding.md R85, in this order). -/
inductive Verbosity where
  | everything
  | onlyData
  | onlyErrors
  | onlyControl
  deriving DecidableEq, Repr

/-- The axis of an offset write (spec/30_encoding.md R86; codes 0 to 2, in this order). -/
inductive Axis where
  | x
  | y
  | z
  deriving DecidableEq, Repr

/-- The OPEN parameters of R6. `quadTrigger` is the hook `QUAD_TRIGGER : UInt8 -> Option (UInt CC_W)` written as a table
(the first entry for a byte counts, a byte with no entry maps to `none`); `controlKinds` is `IS_CONTROL : Kind -> Bool`
written as the list of the kinds it answers true for. Both tables can hold every such function (log entry 2). -/
structure Params where
  /-- `TS_W`: the width of a timestamp. -/
  tsW : Nat
  /-- `CC_W`: the width of `clock_count` and `quad_switch_point`. -/
  ccW : Nat
  /-- `TC_W`: the width of `transaction_count`. -/
  tcW : Nat
  /-- `FASTEST_GAP_INIT`: the reset value of `fastest_gap`. -/
  fastestGapInit : Nat
  /-- `CONT_MODE_INIT`: the reset value of `continuous_mode`. -/
  contModeInit : Bool
  /-- `QUAD_TRIGGER`, as a table. -/
  quadTrigger : List (Byte × Nat)
  /-- `IS_CONTROL`, as the list of control kinds. -/
  controlKinds : List Kind
  deriving DecidableEq, Repr

/-- The defaults of R6. -/
def Params.default : Params where
  tsW := 64
  ccW := 32
  tcW := 32
  fastestGapInit := 2 ^ 64 - 1
  contModeInit := false
  quadTrigger := []
  controlKinds := []

/-- The signal values of the record output bundle (spec/30_encoding.md R87). -/
structure RecordWires where
  rValid : Bool
  rKind : BitVec 3
  rStart : Nat
  rEnd : Nat
  rAddr : Byte
  rValue : Byte
  rValueValid : Bool
  rAxis : BitVec 2
  deriving DecidableEq, Repr, Inhabited

namespace Config

/-- `GAP_MULT` (R6): fixed at 4. -/
def gapMult : Nat := 4

/-- `RESUME_CLOCK` (R6): `clock_count` after a continuous-mode boundary, fixed at 8. -/
def resumeClock : Nat := 8

/-- `TICK` (R6): the real time one timestamp unit stands for. OPEN and "informational only. No rule reads it": a free
value, and no definition of the model reads it (log entry 3). -/
opaque tick : Nat

/-- FREE VALUE. What the wires `r_kind` to `r_axis` carry while `r_valid` is 0: R87 says they "are don't-care". The
argument is the model's clock-edge counter `State.freeIndex`, so the wires may differ from edge to edge (log entry 4). -/
opaque dontCareWires : Nat → RecordWires

end Config

end Sys2Proof
end

