-- ==== Sys2Proof/Syntax.lean ====
section
/-!
DEFINITION. What the block decodes, at its three levels (spec/30_encoding.md), and the ONE inductive of its operations.

The block has no instruction words. Its opcode table (spec/opcode_table.json, 23 rows) lists what it decodes:
* the 15 command decodes of the device grammar, run at a Deassert (R76 to R80, R181);
* the 3 sample classes, run once per accepted sample (R74);
* the 5 marker cases, the micro-operations inside a step (R75, R160 to R164).
`Instr` has one constructor per row, with the row's operand fields.
-/
namespace Sys2Proof

/-- The start and end time of a transaction (spec/43_interpreter.md R182): the two time arguments of `Interpret`. -/
structure Span where
  /-- The Assert time. -/
  startTime : Nat
  /-- The Deassert time. -/
  endTime : Nat
  deriving DecidableEq, Repr

/-- An internal marker (R75): "a tagged union/sum type (variants: Assert{time}, BytePair{mosi, miso}, Deassert{time})". -/
inductive Marker where
  | assert (t : Nat)
  | bytePair (m r : Byte)
  | deassert (t : Nat)
  deriving DecidableEq, Repr

/-- The input signals at one rising edge of `clk` (R89). -/
structure Edge where
  /-- `rst`: synchronous, active high. -/
  rst : Bool
  /-- `s_valid`: a sample is presented. -/
  sValid : Bool
  /-- `s_value`: the sample value. -/
  sValue : SampleWord
  /-- `s_ts`: the timestamp. The port has `TS_W` wires, so a step reads the low `TS_W` bits (log entry 6). -/
  sTs : Nat
  /-- `cfg_verbosity`: read at a reset edge only (R272). -/
  cfgVerbosity : BitVec 2
  deriving DecidableEq, Repr

/-- What is presented to a decoder, at one of the three levels, with the mode bits its row conditions test (R82; the
"condition" entries of the opcode table). -/
inductive Code where
  /-- A sample: `quad` is the mode choice of R130, `value` the 16-bit word of R70. -/
  | sample (quad : Bool) (value : SampleWord) (ts : Nat)
  /-- A marker on wires: the 2-bit tag of R75 and its payload wires (`time` for tags 0b00 and 0b10, `mosi` and `miso`
  for tag 0b01); `txnOpen` and `txnEmpty` are the two row conditions. -/
  | marker (txnOpen txnEmpty : Bool) (tag : BitVec 2) (time : Nat) (mosi miso : Byte)
  /-- A closed transaction (R76): the two byte sequences and their times. -/
  | transaction (mosi miso : List Byte) (span : Span)
  deriving DecidableEq, Repr

/-- The operations of the block: one constructor per row of spec/opcode_table.json, in the table's order. -/
inductive Instr where
  /-- RD_DEVID_00 (R183): read of device-ID address 0x00; `rval` is `miso_bytes[2]`. -/
  | rdDevid00 (sp : Span) (rval : Byte)
  /-- RD_DEVID_01 (R183): read of device-ID address 0x01. -/
  | rdDevid01 (sp : Span) (rval : Byte)
  /-- RD_DEVID_02 (R183): read of device-ID address 0x02. -/
  | rdDevid02 (sp : Span) (rval : Byte)
  /-- RD_REG (R184): register read with its value. -/
  | rdReg (sp : Span) (addr rval : Byte)
  /-- RD_REG_NA (R185): register read whose value byte is missing. -/
  | rdRegNa (sp : Span) (addr : Byte)
  /-- SET_OFFSET_X (R187): write to offset register 0x33. -/
  | setOffsetX (sp : Span) (wval : Byte)
  /-- SET_OFFSET_Y (R187): write to offset register 0x34. -/
  | setOffsetY (sp : Span) (wval : Byte)
  /-- SET_OFFSET_Z (R187): write to offset register 0x35. -/
  | setOffsetZ (sp : Span) (wval : Byte)
  /-- WR_REG (R186): register write. -/
  | wrReg (sp : Span) (addr wval : Byte)
  /-- RD_FIFO (R188): FIFO read; `fval` is `miso_bytes[1]`. -/
  | rdFifo (sp : Span) (fval : Byte)
  /-- ERR_SHORT_RD (R190): 0x0B with fewer than 2 MOSI bytes. -/
  | errShortRd (sp : Span)
  /-- ERR_SHORT_WR (R190): 0x0A with fewer than 3 MOSI bytes. -/
  | errShortWr (sp : Span)
  /-- ERR_SHORT_FIFO (R190): 0x0D with fewer than 2 MISO bytes. -/
  | errShortFifo (sp : Span)
  /-- ERR_UNKNOWN (R189): a command code outside 0x0A, 0x0B, 0x0D. -/
  | errUnknown (sp : Span) (cmd : Byte)
  /-- ERR_EMPTY (R191): no MOSI byte at all. -/
  | errEmpty (sp : Span)
  /-- SMP_IDLE (R108): a sample with CS = 1; `data` is `value[14:0]`, all of it ignored. -/
  | smpIdle (data : SampleData) (ts : Nat)
  /-- SMP_ACTIVE_1W (R130): a sample with CS = 0, taken in single-wire mode. -/
  | smpActive1w (data : SampleData) (ts : Nat)
  /-- SMP_ACTIVE_4W (R136): a sample with CS = 0, taken in quad-wire mode. -/
  | smpActive4w (data : SampleData) (ts : Nat)
  /-- MK_ASSERT (R160): open a transaction. -/
  | mkAssert (t : Nat)
  /-- MK_BYTEPAIR_OPEN (R161): append a byte pair to the open transaction. -/
  | mkBytepairOpen (m r : Byte)
  /-- MK_BYTEPAIR_ORPHAN (R162): a byte pair with no open transaction. -/
  | mkBytepairOrphan (m r : Byte)
  /-- MK_DEASSERT_EMPTY (R163): close an empty transaction. -/
  | mkDeassertEmpty (t : Nat)
  /-- MK_DEASSERT (R164): close a transaction and interpret it. -/
  | mkDeassert (t : Nat)
  deriving DecidableEq, Repr

end Sys2Proof
end

