-- ==== Sys2Proof/WellFormed.lean ====
section
/-!
DEFINITION. Which parameters and which operations are well formed.

`Params.Wf`: the side conditions R6 puts on the OPEN parameters. `Instr.wellFormed`: an operation whose operands fit
their fields and meet the "condition" entry of its own row of spec/opcode_table.json, so that it is what the decoder
gives for its own encoding.
-/
namespace Sys2Proof

/-- `n` fits in `w` bits. -/
def fits (w n : Nat) : Bool := decide (n < 2 ^ w)

/-- R6: `CC_W` is at least 4, `TC_W` at least 1, the initial threshold is a `TS_W`-bit number and every point of the
hook is a `CC_W`-bit number. -/
abbrev Params.Wf (P : Params) : Prop :=
  4 ≤ P.ccW ∧ 1 ≤ P.tcW ∧ P.fastestGapInit < 2 ^ P.tsW ∧ P.quadTrigger.all (fun e => fits P.ccW e.2) = true

/-- Both times are `TS_W`-bit numbers (R83). -/
def Span.wellFormed (P : Params) (sp : Span) : Bool := fits P.tsW sp.startTime && fits P.tsW sp.endTime

/-- The device-ID addresses (spec/30_encoding.md R78). -/
def isDevIdAddr (a : Byte) : Bool := a == 0x00#8 || a == 0x01#8 || a == 0x02#8

/-- The offset registers (R78). -/
def isOffsetAddr (a : Byte) : Bool := a == 0x33#8 || a == 0x34#8 || a == 0x35#8

/-- The three command codes of R77. -/
def isCommandCode (c : Byte) : Bool := c == 0x0A#8 || c == 0x0B#8 || c == 0x0D#8

/-- The operands meet the row's condition and fit their widths. -/
def Instr.wellFormed (P : Params) : Instr → Bool
  | .rdDevid00 sp _ => sp.wellFormed P
  | .rdDevid01 sp _ => sp.wellFormed P
  | .rdDevid02 sp _ => sp.wellFormed P
  | .rdReg sp addr _ => sp.wellFormed P && !isDevIdAddr addr
  | .rdRegNa sp _ => sp.wellFormed P
  | .setOffsetX sp _ => sp.wellFormed P
  | .setOffsetY sp _ => sp.wellFormed P
  | .setOffsetZ sp _ => sp.wellFormed P
  | .wrReg sp addr _ => sp.wellFormed P && !isOffsetAddr addr
  | .rdFifo sp _ => sp.wellFormed P
  | .errShortRd sp => sp.wellFormed P
  | .errShortWr sp => sp.wellFormed P
  | .errShortFifo sp => sp.wellFormed P
  | .errUnknown sp cmd => sp.wellFormed P && !isCommandCode cmd
  | .errEmpty sp => sp.wellFormed P
  | .smpIdle _ ts => fits P.tsW ts
  | .smpActive1w _ ts => fits P.tsW ts
  | .smpActive4w _ ts => fits P.tsW ts
  | .mkAssert t => fits P.tsW t
  | .mkBytepairOpen _ _ => true
  | .mkBytepairOrphan _ _ => true
  | .mkDeassertEmpty t => fits P.tsW t
  | .mkDeassert t => fits P.tsW t

end Sys2Proof
end

