-- ==== Sys2Proof/Decode.lean ====
section
/-!
DEFINITION. The decoder and the encoder of the three levels (spec/30_encoding.md R70 to R80; spec/opcode_table.json).

`decode` is total: the only code it rejects is the marker tag 0b11, which R75 reserves ("never produced"). `encode`
writes the code of an operation, unused bits and ignored bytes 0, with the mode bits of the row's condition.
-/
namespace Sys2Proof

/-- Why a code is rejected. -/
inductive DecodeError where
  /-- The marker tag 0b11, reserved and never produced (R75). -/
  | reservedMarkerTag
  deriving DecidableEq, Repr

/-! ## Samples (R70, R74) -/

/-- The chip-select flag, bit 15: true for an idle sample (R70; spec/90_conflicts.md C1). -/
def csFlag (v : SampleWord) : Bool := v.getLsbD 15

/-- Bits 14:0 of a sample value (R70). -/
def sampleData (v : SampleWord) : SampleData := v.setWidth 15

/-- The sample value with chip-select flag `cs` and bits 14:0 `data` (R70). -/
def sampleWord (cs : Bool) (data : SampleData) : SampleWord := BitVec.ofBool cs ++ data

/-- The sample class of R74: idle by bit 15; otherwise active, and `quad` (R130) says in which mode. -/
def decodeSample (quad : Bool) (v : SampleWord) (ts : Nat) : Instr :=
  if csFlag v then .smpIdle (sampleData v) ts
  else if quad then .smpActive4w (sampleData v) ts
  else .smpActive1w (sampleData v) ts

/-! ## Markers (R75) -/

/-- The 2-bit tag of a marker (R75). -/
def Marker.tag : Marker → BitVec 2
  | .assert _ => 0b00#2
  | .bytePair _ _ => 0b01#2
  | .deassert _ => 0b10#2

/-- The row a marker tag selects; `txnOpen` and `txnEmpty` are the row conditions of spec/opcode_table.json. -/
def decodeMarker (txnOpen txnEmpty : Bool) (tag : BitVec 2) (time : Nat) (m r : Byte) : Except DecodeError Instr :=
  if tag = 0b00#2 then .ok (.mkAssert time)
  else if tag = 0b01#2 then
    if txnOpen then .ok (.mkBytepairOpen m r) else .ok (.mkBytepairOrphan m r)
  else if tag = 0b10#2 then
    if txnEmpty then .ok (.mkDeassertEmpty time) else .ok (.mkDeassert time)
  else .error .reservedMarkerTag

/-! ## Commands (R76 to R80) -/

/-- CMD 0x0B (R183 to R185, R190): the arguments are the MOSI bytes after the command byte, and all MISO bytes. -/
def decodeRead (sp : Span) : List Byte → List Byte → Instr
  | [], _ => .errShortRd sp
  | a :: _, _ :: _ :: v :: _ =>
    if a = 0x00#8 then .rdDevid00 sp v
    else if a = 0x01#8 then .rdDevid01 sp v
    else if a = 0x02#8 then .rdDevid02 sp v
    else .rdReg sp a v
  | a :: _, _ => .rdRegNa sp a

/-- CMD 0x0A (R186, R187, R190): the argument is the MOSI bytes after the command byte. -/
def decodeWrite (sp : Span) : List Byte → Instr
  | a :: w :: _ =>
    if a = 0x33#8 then .setOffsetX sp w
    else if a = 0x34#8 then .setOffsetY sp w
    else if a = 0x35#8 then .setOffsetZ sp w
    else .wrReg sp a w
  | _ => .errShortWr sp

/-- CMD 0x0D (R188, R190): the argument is the MISO bytes. -/
def decodeFifo (sp : Span) : List Byte → Instr
  | _ :: v :: _ => .rdFifo sp v
  | _ => .errShortFifo sp

/-- The device grammar: which row a closed transaction is (R77, R78, R192). -/
def decodeCommand (mosi miso : List Byte) (sp : Span) : Instr :=
  match mosi with
  | [] => .errEmpty sp
  | c :: rest =>
    if c = 0x0B#8 then decodeRead sp rest miso
    else if c = 0x0A#8 then decodeWrite sp rest
    else if c = 0x0D#8 then decodeFifo sp miso
    else .errUnknown sp c

/-! ## The whole decoder and the encoder -/

/-- The row a code selects. -/
def decode : Code → Except DecodeError Instr
  | .sample quad v ts => .ok (decodeSample quad v ts)
  | .marker txnOpen txnEmpty tag time m r => decodeMarker txnOpen txnEmpty tag time m r
  | .transaction mosi miso sp => .ok (decodeCommand mosi miso sp)

/-- The code of an operation: the fields at the places R70, R75 and R76 give them, everything else 0. Commands are
written as the transactions of equal lengths that the block itself would assemble (spec/90_conflicts.md C4). -/
def encode : Instr → Code
  | .rdDevid00 sp v => .transaction [0x0B#8, 0x00#8, 0#8] [0#8, 0#8, v] sp
  | .rdDevid01 sp v => .transaction [0x0B#8, 0x01#8, 0#8] [0#8, 0#8, v] sp
  | .rdDevid02 sp v => .transaction [0x0B#8, 0x02#8, 0#8] [0#8, 0#8, v] sp
  | .rdReg sp a v => .transaction [0x0B#8, a, 0#8] [0#8, 0#8, v] sp
  | .rdRegNa sp a => .transaction [0x0B#8, a] [0#8, 0#8] sp
  | .setOffsetX sp w => .transaction [0x0A#8, 0x33#8, w] [0#8, 0#8, 0#8] sp
  | .setOffsetY sp w => .transaction [0x0A#8, 0x34#8, w] [0#8, 0#8, 0#8] sp
  | .setOffsetZ sp w => .transaction [0x0A#8, 0x35#8, w] [0#8, 0#8, 0#8] sp
  | .wrReg sp a w => .transaction [0x0A#8, a, w] [0#8, 0#8, 0#8] sp
  | .rdFifo sp v => .transaction [0x0D#8, 0#8] [0#8, v] sp
  | .errShortRd sp => .transaction [0x0B#8] [0#8] sp
  | .errShortWr sp => .transaction [0x0A#8] [0#8] sp
  | .errShortFifo sp => .transaction [0x0D#8] [0#8] sp
  | .errUnknown sp c => .transaction [c] [0#8] sp
  | .errEmpty sp => .transaction [] [] sp
  | .smpIdle data ts => .sample false (sampleWord true data) ts
  | .smpActive1w data ts => .sample false (sampleWord false data) ts
  | .smpActive4w data ts => .sample true (sampleWord false data) ts
  | .mkAssert t => .marker false true 0b00#2 t 0#8 0#8
  | .mkBytepairOpen m r => .marker true false 0b01#2 0 m r
  | .mkBytepairOrphan m r => .marker false true 0b01#2 0 m r
  | .mkDeassertEmpty t => .marker true true 0b10#2 t 0#8 0#8
  | .mkDeassert t => .marker true false 0b10#2 t 0#8 0#8

/-! ## A bare word of the opcode table

The rows of spec/opcode_table.json stand at three levels and their words overlap (0x0B00 is a command key and a sample
value). A bare word carries neither its level nor the mode bits, so the level is chosen here: the first row of the
table, in the table's order, that fixes at least one bit and whose match and mask the word satisfies at its width
(log entry 5). This choice serves `decodeTableWord` and `State.withFetchWord` only; no step makes it. -/

/-- The code a bare word of `nbits` bits stands for: 8-bit words are a CMD byte or a marker tag, wider ones a
CMD_ADDR key `CMD ++ ADDR`, a CMD byte or a sample value. Operand bytes and times are 0. -/
def tableCode (nbits w : Nat) : Code :=
  let low := BitVec.ofNat 8 w
  let high := BitVec.ofNat 8 (w / 256)
  let sp : Span := ⟨0, 0⟩
  if nbits = 0 then .transaction [] [] sp
  else if nbits ≤ 8 then
    if w < 4 then .marker true true (BitVec.ofNat 2 w) 0 0#8 0#8
    else if low = 0x0D#8 then .transaction [low, 0#8] [0#8, 0#8] sp
    else .transaction [low] [0#8] sp
  else if high = 0x0B#8 ∨ high = 0x0A#8 then .transaction [high, low, 0#8] [0#8, 0#8, 0#8] sp
  else if csFlag (BitVec.ofNat 16 w) then .sample false (BitVec.ofNat 16 w) 0
  else if low = 0x0D#8 then .transaction [low, 0#8] [0#8, 0#8] sp
  else if low = 0x0B#8 ∨ low = 0x0A#8 then .transaction [low] [0#8] sp
  else .sample false (BitVec.ofNat 16 w) 0

/-- The operation the decoder reads from a bare word of the opcode table; `none` where it refuses. -/
def decodeTableWord (nbits w : Nat) : Option Instr := (decode (tableCode nbits w)).toOption

end Sys2Proof
end

