-- ==== Sys2Proof/Machine/State.lean ====
section
/-!
DEFINITION. The state of the block (spec/10_state.md R20), its output registers (spec/30_encoding.md R87, R88;
spec/45_step.md R233), the input the host presents (R89), the outcomes of a step and the machine right after reset
(spec/70_reset_and_hazards.md R270).
-/
namespace Sys2Proof.Machine

/-- The kind-specific payload of a record (spec/30_encoding.md R83; spec/45_step.md R234). -/
inductive Payload where
  /-- ReadRegister: `value` is `none` for "not available" (R185). -/
  | readRegister (addr : Byte) (value : Option Byte)
  | writeRegister (addr value : Byte)
  | setOffset (axis : Axis) (value : Byte)
  | readFifo (value : Byte)
  | readDeviceId (value : Byte)
  /-- Error: its payload is always the description "unknown command" (R189), so it carries no field (R83). -/
  | error
  deriving DecidableEq, Repr

/-- One decoded record (R83). -/
structure Record where
  /-- `start_time` and `end_time`. -/
  span : Span
  payload : Payload
  deriving DecidableEq, Repr

/-- No fault exists: spec/60_exceptions.md R240, "No exception halts, stalls or redirects the block". Nothing raises
one, and that is safe: every accepted sample is processed completely. -/
inductive Fault where
  deriving DecidableEq, Repr

/-- Why an operation has no meaning in the model. -/
inductive Refusal where
  /-- Raised only by an arm of `exec` whose row has no meaning yet; no arm does. Safe: the model stops. -/
  | notModelled (mnemonic : String)
  deriving DecidableEq, Repr

/-- The state of one instance. The fields from `lastSampleTime` to `verbosity` are the state vector of R20, in its
order; the others are said to be what they are. -/
structure State where
  /-- The OPEN parameters of the instance (R6, R35). No operation writes this field. -/
  params : Params
  /-- `last_sample_time` (R21); `none` is `LAST_VALID` = 0. -/
  lastSampleTime : Option Nat
  /-- `fastest_gap` (R22), the boundary threshold. -/
  fastestGap : Nat
  /-- `transaction_count` (R23), saturating. -/
  transactionCount : Nat
  /-- `clock_count` (R24), wrapping. -/
  clockCount : Nat
  /-- `continuous_mode` (R25). -/
  continuousMode : Bool
  /-- `command_byte` (R26); `none` is `CMD_VALID` = 0. -/
  commandByte : Option Byte
  /-- `quad_switch_point` (R27); `none` is `QSP_VALID` = 0. -/
  quadSwitchPoint : Option Nat
  /-- `mosi_shift` (R28). -/
  mosiShift : Byte
  /-- `miso_shift` (R28). -/
  misoShift : Byte
  /-- `quad_shift` (R29). -/
  quadShift : Byte
  /-- `mosi_bytes` (R30), the first completed byte first. -/
  mosiBytes : List Byte
  /-- `miso_bytes` (R30). -/
  misoBytes : List Byte
  /-- `txn_open` (R31). -/
  txnOpen : Bool
  /-- `transaction_start_time` (R32). -/
  transactionStartTime : Nat
  /-- `empty_result_warned` (R33), driven on `st_warned` (R88). -/
  emptyResultWarned : Bool
  /-- `verbosity` (R34). -/
  verbosity : Verbosity
  /-- The registered record output of the last clock edge (R87, R233): `some` is `r_valid` = 1. -/
  recOut : Option Record
  /-- The registered `anomaly` output of the last clock edge (R88, R233). -/
  anomaly : Bool
  /-- The MODEL's own field: the input signals the host will present at the coming clock edges, in order (R5, R89).
  Where the list is empty the host presents nothing (log entry 7). -/
  input : List Edge
  /-- The MODEL's own field: how many clock edges have passed; it indexes the free values (log entry 4). -/
  freeIndex : Nat
  deriving DecidableEq, Repr

/-- The machine right after reset: R270, at the default parameters of R6, with `cfg_verbosity` = 0 (Everything, "the
default verbosity", R221; log entry 8), both output strobes 0 (R271) and no input presented yet. -/
def State.reset : State where
  params := Params.default
  lastSampleTime := none
  fastestGap := Params.default.fastestGapInit
  transactionCount := 0
  clockCount := 0
  continuousMode := Params.default.contModeInit
  commandByte := none
  quadSwitchPoint := none
  mosiShift := 0x00#8
  misoShift := 0x00#8
  quadShift := 0x00#8
  mosiBytes := []
  misoBytes := []
  txnOpen := false
  transactionStartTime := 0
  emptyResultWarned := false
  verbosity := .everything
  recOut := none
  anomaly := false
  input := []
  freeIndex := 0

end Sys2Proof.Machine
end

