-- ==== Sys2Proof/Machine/Operands.lean ====
section
/-!
DEFINITION. The fields of the sample word, the shift operations, the parameter lookups and the codes of the output
fields (spec/30_encoding.md R70 to R72, R83 to R86; spec/41_accumulator.md R131, R136).
-/
namespace Sys2Proof.Machine

/-! ## Fields of a sample value -/

/-- `mosi_bit = value[0]` (R71). -/
def mosiBit (v : SampleWord) : Bool := v.getLsbD 0

/-- `miso_bit = value[1]` (R71). -/
def misoBit (v : SampleWord) : Bool := v.getLsbD 1

/-- `nibble = value[3:0]` (R72). -/
def nibbleOf (v : SampleWord) : Nibble := v.extractLsb' 0 4

/-! ## The shift accumulators -/

/-- `trunc_8((shift << 1) | bit)` (R131): the bit enters at position 0 and bit 7 is dropped. -/
def shiftBit (shift : Byte) (bit : Bool) : Byte := (shift ++ BitVec.ofBool bit).setWidth 8

/-- `trunc_8((shift << 4) | nibble)` (R136): the nibble enters at bits 3:0 and bits 7:4 are dropped. -/
def shiftNibble (shift : Byte) (n : Nibble) : Byte := (shift ++ n).setWidth 8

/-! ## Parameters as functions (R6) -/

/-- `QUAD_TRIGGER(b)`. -/
def quadPoint (P : Params) (b : Byte) : Option Nat := (P.quadTrigger.find? (fun e => e.1 == b)).map Prod.snd

/-- `IS_CONTROL(k)`. -/
def isControl (P : Params) (k : Kind) : Bool := P.controlKinds.contains k

/-! ## Fields of a record -/

/-- The kind of a payload (R83). -/
def Payload.kind : Payload → Kind
  | .readRegister _ _ => .readRegister
  | .writeRegister _ _ => .writeRegister
  | .setOffset _ _ => .setOffset
  | .readFifo _ => .readFifo
  | .readDeviceId _ => .readDeviceId
  | .error => .error

/-- The kind of a record (R83). -/
def Record.kind (r : Record) : Kind := r.payload.kind

/-! ## Codes -/

/-- Kind codes (R84). Codes 6 and 7 are never produced. -/
def kindCode : Kind → BitVec 3
  | .readRegister => 0
  | .writeRegister => 1
  | .setOffset => 2
  | .readFifo => 3
  | .readDeviceId => 4
  | .error => 5

/-- Axis codes (R86). Code 3 is never produced. -/
def axisCode : Axis → BitVec 2
  | .x => 0
  | .y => 1
  | .z => 2

/-- Verbosity codes (R85). -/
def verbosityCode : Verbosity → BitVec 2
  | .everything => 0
  | .onlyData => 1
  | .onlyErrors => 2
  | .onlyControl => 3

/-- The verbosity a 2-bit code stands for: "All four 2-bit values are legal" (R85). -/
def verbosityOf (c : BitVec 2) : Verbosity :=
  if c = 0 then .everything
  else if c = 1 then .onlyData
  else if c = 2 then .onlyErrors
  else .onlyControl

end Sys2Proof.Machine
end

