-- ==== Sys2Proof/Machine/Flags.lean ====
section
/-!
DEFINITION. The valid bits and the tests a step makes: the gap and the boundary test (spec/40_detector.md R100 to R103),
the mode choice and the completion tests (spec/41_accumulator.md R130, R133, R134, R137), the filter predicate
(spec/44_filter.md R220) and the class conditions of the assembler.
-/
namespace Sys2Proof.Machine

/-! ## Valid bits (spec/10_state.md R39) -/

/-- `LAST_VALID`. -/
def lastValid (s : State) : Bool := s.lastSampleTime.isSome

/-- `CMD_VALID`. -/
def cmdValid (s : State) : Bool := s.commandByte.isSome

/-- `QSP_VALID`. -/
def qspValid (s : State) : Bool := s.quadSwitchPoint.isSome

/-! ## Detector tests -/

/-- The inter-sample gap (R100), with 0 for a decreasing timestamp (R101). -/
def gapOf (ts : Nat) (s : State) : Nat :=
  match s.lastSampleTime with
  | none => s.fastestGap
  | some tLast => if tLast ≤ ts then ts - tLast else 0

/-- The updated threshold `min(4 * gap, F0)` (R102). The product is exact, and the minimum is at most `F0`. -/
def thresholdOf (ts : Nat) (s : State) : Nat := min (Config.gapMult * gapOf ts s) s.fastestGap

/-- The boundary test of R103, at the state before the threshold update: it compares with the updated threshold. -/
def isBoundary (v : SampleWord) (ts : Nat) (s : State) : Bool :=
  decide (thresholdOf ts s < gapOf ts s) && !csFlag v

/-! ## Accumulator tests -/

/-- Single-wire mode (R130): no switch point, or the clock index is below it. -/
def isSingleWire (s : State) : Bool :=
  match s.quadSwitchPoint with
  | none => true
  | some p => decide (s.clockCount < p)

/-- A single-wire byte completes: `clock_count[2:0] == 0b111` (R133). -/
def byteDone (s : State) : Bool := decide (s.clockCount % 8 = 7)

/-- The completed byte is the first of its frame: `clock_count == 7`, all bits compared (R134). -/
def isCommandByte (s : State) : Bool := decide (s.clockCount = 7)

/-- A quad-wire byte completes at switch point `p`: `(clock_count[0] xor p[0]) == 1` (R137). -/
def quadByteDone (p : Nat) (s : State) : Bool := decide (s.clockCount % 2 ≠ p % 2)

/-! ## Assembler tests -/

/-- `len(mosi_bytes) == 0 or len(miso_bytes) == 0` (R163). -/
def txnEmpty (s : State) : Bool := s.mosiBytes.isEmpty || s.misoBytes.isEmpty

/-! ## The output filter -/

/-- `Pass(verbosity, kind)` (R220 to R224). -/
def passes (P : Params) (vb : Verbosity) (k : Kind) : Bool :=
  match vb with
  | .everything => true
  | .onlyData => !isControl P k
  | .onlyErrors => decide (k = .error)
  | .onlyControl => isControl P k

end Sys2Proof.Machine
end

