-- ==== Sys2Proof/Machine/Ops.lean ====
section
/-!
DEFINITION. The named updates of the state that every operation is built of. Each writes the fields its rule names and
nothing else; Laws/State.lean says so field by field.

The block has no addressable memory (spec/20_memory.md R50): its only storage is the pair of byte sequences, which
`openTransaction`, `appendPair` and `closeTransaction` write (R51). It has no trap: the counterpart of taking an
exception is `raiseAnomaly` (spec/60_exceptions.md R242), from which processing simply goes on (R247, R248).
-/
namespace Sys2Proof.Machine

/-! ## Clock edges -/

/-- The next edge of the input is taken: `rest` is what the host still has to present. -/
def State.takeEdge (rest : List Edge) (s : State) : State :=
  { s with input := rest, freeIndex := s.freeIndex + 1 }

/-- `rec_out <- none; anomaly <- false`: how a step begins (spec/45_step.md R227), and all that an edge which takes no
step does (R233). -/
def State.clearOutputs (s : State) : State := { s with recOut := none, anomaly := false }

/-- A reset edge (spec/70_reset_and_hazards.md R270 to R272): every field of R20 at its reset value, `verbosity` latched
from `cfg_verbosity`, both output strobes 0. -/
def State.loadReset (cfg : BitVec 2) (s : State) : State :=
  { s with
    lastSampleTime := none
    fastestGap := s.params.fastestGapInit
    transactionCount := 0
    clockCount := 0
    continuousMode := s.params.contModeInit
    commandByte := none
    quadSwitchPoint := none
    mosiShift := 0x00#8
    misoShift := 0x00#8
    quadShift := 0x00#8
    mosiBytes := []
    misoBytes := []
    txnOpen := false
    transactionStartTime := 0
    emptyResultWarned := false
    verbosity := verbosityOf cfg
    recOut := none
    anomaly := false }

/-! ## Detector updates -/

/-- THRESH (R102). -/
def State.updateThreshold (ts : Nat) (s : State) : State := { s with fastestGap := thresholdOf ts s }

/-- LASTTIME (R107). -/
def State.setLastSample (ts : Nat) (s : State) : State := { s with lastSampleTime := some ts }

/-- The saturating increment of `transaction_count` (R105). -/
def State.countBoundary (s : State) : State :=
  { s with
    transactionCount :=
      if s.transactionCount < maxOf s.params.tcW then s.transactionCount + 1 else s.transactionCount }

/-- RESTART (R106): the accumulator reset of a non-continuous boundary. -/
def State.restartFrame (s : State) : State :=
  { s with
    clockCount := 0
    quadSwitchPoint := none
    mosiShift := 0x00#8
    misoShift := 0x00#8
    quadShift := 0x00#8
    commandByte := none }

/-! ## Accumulator updates -/

/-- A write of `clock_count` (R109, R141). -/
def State.setClock (c : Nat) (s : State) : State := { s with clockCount := c }

/-- CMDCAP and QTRIG (R134, R135): the command byte is captured, and the hook may set the switch point. -/
def State.captureCommand (b : Byte) (s : State) : State :=
  { s with
    commandByte := some b
    quadSwitchPoint :=
      match quadPoint s.params b with
      | none => s.quadSwitchPoint
      | some p => some p }

/-- A write of both single-wire accumulators (R131, R133). -/
def State.setShifts (m r : Byte) (s : State) : State := { s with mosiShift := m, misoShift := r }

/-- A write of the quad-wire accumulator (R136, R137). -/
def State.setQuadShift (q : Byte) (s : State) : State := { s with quadShift := q }

/-! ## Assembler updates -/

/-- ON-ASSERT (R160). -/
def State.openTransaction (t : Nat) (s : State) : State :=
  { s with txnOpen := true, mosiBytes := [], misoBytes := [], transactionStartTime := t }

/-- The two appends of R161. -/
def State.appendPair (m r : Byte) (s : State) : State :=
  { s with mosiBytes := s.mosiBytes ++ [m], misoBytes := s.misoBytes ++ [r] }

/-- How R163 and R164 close a transaction. -/
def State.closeTransaction (s : State) : State := { s with txnOpen := false, mosiBytes := [], misoBytes := [] }

/-- `raise Anomaly()` (R162, R242): the flag is set, and `anomaly` pulses on the first occurrence only. No other state
changes, and processing goes on. -/
def State.raiseAnomaly (s : State) : State :=
  { s with
    anomaly := if s.emptyResultWarned then s.anomaly else true
    emptyResultWarned := true }

/-! ## Output -/

/-- `if Pass(verbosity, rec.kind) then Out(rec)` (R164, R220). A suppressed record writes nothing (R225). -/
def State.putRecord (r : Record) (s : State) : State :=
  { s with recOut := if passes s.params s.verbosity r.kind then some r else s.recOut }

end Sys2Proof.Machine
end

