-- ==== Sys2Proof/Machine/Commands.lean ====
section
/-!
DEFINITION. The device grammar's rows (spec/43_interpreter.md R183 to R191): the record of each command decode, and the
meaning of its operation.

`Interpret` (R181) is the decoder's `decodeCommand` followed by `commandRecord`. A command operation presents its record
to the filter (R164, R220) and does nothing else: R180, "It writes no state". Closing the transaction is the marker
operation's work (Assembler.lean), which runs the decoded command through `runCommand`.
-/
namespace Sys2Proof.Machine

/-- The record a command row returns (R183 to R191); the sample and marker rows return none. -/
def commandRecord : Instr → Option Record
  | .rdDevid00 sp v => some ⟨sp, .readDeviceId v⟩
  | .rdDevid01 sp v => some ⟨sp, .readDeviceId v⟩
  | .rdDevid02 sp v => some ⟨sp, .readDeviceId v⟩
  | .rdReg sp a v => some ⟨sp, .readRegister a (some v)⟩
  | .rdRegNa sp a => some ⟨sp, .readRegister a none⟩
  | .setOffsetX sp w => some ⟨sp, .setOffset .x w⟩
  | .setOffsetY sp w => some ⟨sp, .setOffset .y w⟩
  | .setOffsetZ sp w => some ⟨sp, .setOffset .z w⟩
  | .wrReg sp a w => some ⟨sp, .writeRegister a w⟩
  | .rdFifo sp v => some ⟨sp, .readFifo v⟩
  | .errShortRd sp => some ⟨sp, .error⟩
  | .errShortWr sp => some ⟨sp, .error⟩
  | .errShortFifo sp => some ⟨sp, .error⟩
  | .errUnknown sp _ => some ⟨sp, .error⟩
  | .errEmpty sp => some ⟨sp, .error⟩
  | .smpIdle _ _ => none
  | .smpActive1w _ _ => none
  | .smpActive4w _ _ => none
  | .mkAssert _ => none
  | .mkBytepairOpen _ _ => none
  | .mkBytepairOrphan _ _ => none
  | .mkDeassertEmpty _ => none
  | .mkDeassert _ => none

/-- Run a command row: its record goes through the filter to the record output. -/
def runCommand (i : Instr) (s : State) : State :=
  match commandRecord i with
  | some r => s.putRecord r
  | none => s

/-- RD_DEVID_00 (R183). -/
def execRdDevid00 (sp : Span) (rval : Byte) (s : State) : Host.Outcome State Fault Refusal :=
  .next (runCommand (.rdDevid00 sp rval) s)

/-- RD_DEVID_01 (R183). -/
def execRdDevid01 (sp : Span) (rval : Byte) (s : State) : Host.Outcome State Fault Refusal :=
  .next (runCommand (.rdDevid01 sp rval) s)

/-- RD_DEVID_02 (R183). -/
def execRdDevid02 (sp : Span) (rval : Byte) (s : State) : Host.Outcome State Fault Refusal :=
  .next (runCommand (.rdDevid02 sp rval) s)

/-- RD_REG (R184). -/
def execRdReg (sp : Span) (addr rval : Byte) (s : State) : Host.Outcome State Fault Refusal :=
  .next (runCommand (.rdReg sp addr rval) s)

/-- RD_REG_NA (R185). -/
def execRdRegNa (sp : Span) (addr : Byte) (s : State) : Host.Outcome State Fault Refusal :=
  .next (runCommand (.rdRegNa sp addr) s)

/-- SET_OFFSET_X (R187). -/
def execSetOffsetX (sp : Span) (wval : Byte) (s : State) : Host.Outcome State Fault Refusal :=
  .next (runCommand (.setOffsetX sp wval) s)

/-- SET_OFFSET_Y (R187). -/
def execSetOffsetY (sp : Span) (wval : Byte) (s : State) : Host.Outcome State Fault Refusal :=
  .next (runCommand (.setOffsetY sp wval) s)

/-- SET_OFFSET_Z (R187). -/
def execSetOffsetZ (sp : Span) (wval : Byte) (s : State) : Host.Outcome State Fault Refusal :=
  .next (runCommand (.setOffsetZ sp wval) s)

/-- WR_REG (R186). -/
def execWrReg (sp : Span) (addr wval : Byte) (s : State) : Host.Outcome State Fault Refusal :=
  .next (runCommand (.wrReg sp addr wval) s)

/-- RD_FIFO (R188). -/
def execRdFifo (sp : Span) (fval : Byte) (s : State) : Host.Outcome State Fault Refusal :=
  .next (runCommand (.rdFifo sp fval) s)

/-- ERR_SHORT_RD (R190; cause E_SHORT_RD of R241). -/
def execErrShortRd (sp : Span) (s : State) : Host.Outcome State Fault Refusal := .next (runCommand (.errShortRd sp) s)

/-- ERR_SHORT_WR (R190; cause E_SHORT_WR of R241). -/
def execErrShortWr (sp : Span) (s : State) : Host.Outcome State Fault Refusal := .next (runCommand (.errShortWr sp) s)

/-- ERR_SHORT_FIFO (R190; cause E_SHORT_FIFO of R241). -/
def execErrShortFifo (sp : Span) (s : State) : Host.Outcome State Fault Refusal :=
  .next (runCommand (.errShortFifo sp) s)

/-- ERR_UNKNOWN (R189; cause E_UNKNOWN of R241). -/
def execErrUnknown (sp : Span) (cmd : Byte) (s : State) : Host.Outcome State Fault Refusal :=
  .next (runCommand (.errUnknown sp cmd) s)

/-- ERR_EMPTY (R191; cause E_EMPTY of R241): unreachable inside the block, where R163 drops an empty transaction. -/
def execErrEmpty (sp : Span) (s : State) : Host.Outcome State Fault Refusal := .next (runCommand (.errEmpty sp) s)

end Sys2Proof.Machine
end

