-- ==== Sys2Proof/Machine/Assembler.lean ====
section
/-!
DEFINITION. The transaction assembler (spec/42_assembler.md R160 to R164): what each marker does, and the meaning of the
five marker rows. Each rule's pseudocode carries its own guard, and outside the guard it does nothing; `consume` picks
the rule by the row condition (spec/45_step.md R227, R228).
-/
namespace Sys2Proof.Machine

/-- ON-ASSERT (R160). -/
def onAssert (t : Nat) (s : State) : State := s.openTransaction t

/-- ON-PAIR (R161). -/
def onPair (m r : Byte) (s : State) : State := if s.txnOpen then s.appendPair m r else s

/-- ON-PAIR-ORPHAN (R162): the pair is discarded. -/
def onPairOrphan (_m _r : Byte) (s : State) : State := if s.txnOpen then s else s.raiseAnomaly

/-- ON-DEASSERT-EMPTY (R163): no record. -/
def onDeassertEmpty (_t : Nat) (s : State) : State := if txnEmpty s then s.closeTransaction else s

/-- ON-DEASSERT (R164): the transaction is interpreted with the Deassert's time as its end time, its record goes through
the filter, and the transaction is closed. -/
def onDeassert (t : Nat) (s : State) : State :=
  if txnEmpty s then s
  else (runCommand (decodeCommand s.mosiBytes s.misoBytes ⟨s.transactionStartTime, t⟩) s).closeTransaction

/-- `Consume(m)` (R227): the assembler rule for marker `m`, applied at once. -/
def consume (m : Marker) (s : State) : State :=
  match m with
  | .assert t => onAssert t s
  | .bytePair m r => if s.txnOpen then onPair m r s else onPairOrphan m r s
  | .deassert t => if txnEmpty s then onDeassertEmpty t s else onDeassert t s

/-- MK_ASSERT (R160). -/
def execMkAssert (t : Nat) (s : State) : Host.Outcome State Fault Refusal := .next (onAssert t s)

/-- MK_BYTEPAIR_OPEN (R161). -/
def execMkBytepairOpen (m r : Byte) (s : State) : Host.Outcome State Fault Refusal := .next (onPair m r s)

/-- MK_BYTEPAIR_ORPHAN (R162). -/
def execMkBytepairOrphan (m r : Byte) (s : State) : Host.Outcome State Fault Refusal := .next (onPairOrphan m r s)

/-- MK_DEASSERT_EMPTY (R163). -/
def execMkDeassertEmpty (t : Nat) (s : State) : Host.Outcome State Fault Refusal := .next (onDeassertEmpty t s)

/-- MK_DEASSERT (R164). -/
def execMkDeassert (t : Nat) (s : State) : Host.Outcome State Fault Refusal := .next (onDeassert t s)

end Sys2Proof.Machine
end

