-- ==== Sys2Proof/Machine/Accumulator.lean ====
section
/-!
DEFINITION. The bit accumulator (spec/41_accumulator.md R130 to R141), in the order of spec/45_step.md R227.
-/
namespace Sys2Proof.Machine

/-- BYTE1 with CMDCAP and QTRIG (R133 to R135): a completed single-wire byte pair is captured if it is the first of its
frame, emitted, and the accumulators are zeroed. -/
def finishByte (s : State) : State :=
  let s1 := if isCommandByte s then s.captureCommand s.mosiShift else s
  (consume (.bytePair s.mosiShift s.misoShift) s1).setShifts 0x00#8 0x00#8

/-- One single-wire clock (R131, R133). -/
def clockSingle (v : SampleWord) (s : State) : State :=
  let s1 := s.setShifts (shiftBit s.mosiShift (mosiBit v)) (shiftBit s.misoShift (misoBit v))
  if byteDone s then finishByte s1 else s1

/-- One quad-wire clock at switch point `p` (R136, R137): both halves of the pair carry the same byte. -/
def clockQuad (p : Nat) (v : SampleWord) (s : State) : State :=
  let q := shiftNibble s.quadShift (nibbleOf v)
  if quadByteDone p s then (consume (.bytePair q q) (s.setQuadShift q)).setQuadShift 0x00#8 else s.setQuadShift q

/-- The data part of an active sample (R130), then CLKINC (R141): the clock index before it plus 1, kept to
`CC_W` bits (R140). -/
def accumulate (v : SampleWord) (s : State) : State :=
  let s1 :=
    match s.quadSwitchPoint with
    | none => clockSingle v s
    | some p => if s.clockCount < p then clockSingle v s else clockQuad p v s
  s1.setClock (trunc s.params.ccW (s.clockCount + 1))

end Sys2Proof.Machine
end

