-- ==== Sys2Proof/Machine/Detector.lean ====
section
/-!
DEFINITION. The edge and transaction detector (spec/40_detector.md R100 to R109), in the order of spec/45_step.md R227.
-/
namespace Sys2Proof.Machine

/-- DEASSERT-SYNTH (R104): close the previous transaction at the time of the previous sample. `tLast` is the value of
`last_sample_time` at the start of the step; it is present at every boundary (R41(e), R103). -/
def closePrevious (tLast : Option Nat) (s : State) : State :=
  if 0 < s.transactionCount then
    match tLast with
    | some t => consume (.deassert t) s
    | none => s
  else s

/-- ASSERT-SYNTH (R105): open a new transaction and count the boundary. -/
def openNext (ts : Nat) (s : State) : State := (consume (.assert ts) s).countBoundary

/-- RESUME (R109): a continuous-mode boundary replays the command byte, 0x00 where it is absent. -/
def resume (s : State) : State :=
  consume (.bytePair (s.commandByte.getD 0x00#8) 0x00#8) (s.setClock Config.resumeClock)

/-- RESTART or RESUME (R106, R109), by `continuous_mode`. -/
def startFrame (s : State) : State := if s.continuousMode then resume s else s.restartFrame

/-- What a boundary does (R104, R105, then R106 or R109); R228 fixes the order. -/
def crossBoundary (tLast : Option Nat) (ts : Nat) (s : State) : State :=
  startFrame (openNext ts (closePrevious tLast s))

/-- The whole detector: threshold, boundary, `last_sample_time` (R100 to R109). -/
def detect (v : SampleWord) (ts : Nat) (s : State) : State :=
  let s1 := s.updateThreshold ts
  let s2 := if isBoundary v ts s then crossBoundary s.lastSampleTime ts s1 else s1
  s2.setLastSample ts

end Sys2Proof.Machine
end

