-- ==== Sys2Proof/Machine/Samples.lean ====
section
/-!
DEFINITION. The per-sample step (spec/45_step.md R227) and the meaning of the three sample rows (R74, R235).
-/
namespace Sys2Proof.Machine

/-- STEP (R227): the complete transition for one accepted sample. An idle sample ends after the detector (R108). -/
def acceptSample (v : SampleWord) (ts : Nat) (s : State) : State :=
  let s1 := detect v ts s.clearOutputs
  if csFlag v then s1 else accumulate v s1

/-- The mode bit the sample decoder reads (R74 classes 4 and 5: "evaluated after classes 1 and 2"): whether the clock of
this sample is a quad-wire one. -/
def quadAfterDetector (v : SampleWord) (ts : Nat) (s : State) : Bool := !isSingleWire (detect v ts s)

/-- The timestamp as the port carries it: `TS_W` wires (R73, R89). -/
def portTime (e : Edge) (s : State) : Nat := trunc s.params.tsW e.sTs

/-- What an accepted edge presents to the decoder. -/
def fetchSample (e : Edge) (s : State) : Code :=
  .sample (quadAfterDetector e.sValue (portTime e s) s) e.sValue (portTime e s)

/-- SMP_IDLE (R108): only `fastest_gap` and `last_sample_time` change. -/
def execSmpIdle (data : SampleData) (ts : Nat) (s : State) : Host.Outcome State Fault Refusal :=
  .next (acceptSample (sampleWord true data) ts s)

/-- SMP_ACTIVE_1W (R130): the active sample of a single-wire clock. R130 chooses the mode from the state, so the row
name binds nothing beyond CS = 0 (log entry 9). -/
def execSmpActive1w (data : SampleData) (ts : Nat) (s : State) : Host.Outcome State Fault Refusal :=
  .next (acceptSample (sampleWord false data) ts s)

/-- SMP_ACTIVE_4W (R136): the active sample of a quad-wire clock; see `execSmpActive1w`. -/
def execSmpActive4w (data : SampleData) (ts : Nat) (s : State) : Host.Outcome State Fault Refusal :=
  .next (acceptSample (sampleWord false data) ts s)

end Sys2Proof.Machine
end

