-- ==== Sys2Proof/Machine/Dispatch.lean ====
section
/-! DEFINITION. The meaning of every row of spec/opcode_table.json, one arm per constructor. -/
namespace Sys2Proof.Machine

-- Arms 1 to 15: command decodes. Arms 16 to 18: sample classes. Arms 19 to 23: marker cases.
def exec (i : Instr) (s : State) : Host.Outcome State Fault Refusal :=
  match i with
  | .rdDevid00 sp rval => Sys2Proof.Machine.execRdDevid00 sp rval s
  | .rdDevid01 sp rval => Sys2Proof.Machine.execRdDevid01 sp rval s
  | .rdDevid02 sp rval => Sys2Proof.Machine.execRdDevid02 sp rval s
  | .rdReg sp addr rval => Sys2Proof.Machine.execRdReg sp addr rval s
  | .rdRegNa sp addr => Sys2Proof.Machine.execRdRegNa sp addr s
  | .setOffsetX sp wval => Sys2Proof.Machine.execSetOffsetX sp wval s
  | .setOffsetY sp wval => Sys2Proof.Machine.execSetOffsetY sp wval s
  | .setOffsetZ sp wval => Sys2Proof.Machine.execSetOffsetZ sp wval s
  | .wrReg sp addr wval => Sys2Proof.Machine.execWrReg sp addr wval s
  | .rdFifo sp fval => Sys2Proof.Machine.execRdFifo sp fval s
  | .errShortRd sp => Sys2Proof.Machine.execErrShortRd sp s
  | .errShortWr sp => Sys2Proof.Machine.execErrShortWr sp s
  | .errShortFifo sp => Sys2Proof.Machine.execErrShortFifo sp s
  | .errUnknown sp cmd => Sys2Proof.Machine.execErrUnknown sp cmd s
  | .errEmpty sp => Sys2Proof.Machine.execErrEmpty sp s
  | .smpIdle data ts => Sys2Proof.Machine.execSmpIdle data ts s
  | .smpActive1w data ts => Sys2Proof.Machine.execSmpActive1w data ts s
  | .smpActive4w data ts => Sys2Proof.Machine.execSmpActive4w data ts s
  | .mkAssert t => Sys2Proof.Machine.execMkAssert t s
  | .mkBytepairOpen m r => Sys2Proof.Machine.execMkBytepairOpen m r s
  | .mkBytepairOrphan m r => Sys2Proof.Machine.execMkBytepairOrphan m r s
  | .mkDeassertEmpty t => Sys2Proof.Machine.execMkDeassertEmpty t s
  | .mkDeassert t => Sys2Proof.Machine.execMkDeassert t s

end Sys2Proof.Machine
end

