-- ==== Sys2Proof/Machine/Outputs.lean ====
section
/-!
DEFINITION. What the block drives on its output signals (spec/30_encoding.md R87, R88; spec/43_interpreter.md R194).
-/
namespace Sys2Proof.Machine

/-- The output bundle of a record, row by row of R194; fields that carry no meaning for the kind are driven 0 (R83). -/
def recordWires (r : Record) : RecordWires :=
  let w : RecordWires :=
    { rValid := true, rKind := kindCode r.kind, rStart := r.span.startTime, rEnd := r.span.endTime,
      rAddr := 0x00#8, rValue := 0x00#8, rValueValid := false, rAxis := 0 }
  match r.payload with
  | .readRegister a (some v) => { w with rAddr := a, rValue := v, rValueValid := true }
  | .readRegister a none => { w with rAddr := a }
  | .writeRegister a v => { w with rAddr := a, rValue := v, rValueValid := true }
  | .setOffset axis v => { w with rValue := v, rValueValid := true, rAxis := axisCode axis }
  | .readFifo v => { w with rValue := v, rValueValid := true }
  | .readDeviceId v => { w with rValue := v, rValueValid := true }
  | .error => w

/-- The record output bundle in the cycle after the last clock edge (R87, R233). While `r_valid` is 0 the other signals
are free (log entry 4). -/
def outputWires (s : State) : RecordWires :=
  match s.recOut with
  | some r => recordWires r
  | none => { Config.dontCareWires s.freeIndex with rValid := false }

/-- `st_warned` (R88): always equal to `empty_result_warned`. -/
def stWarned (s : State) : Bool := s.emptyResultWarned

/-- `anomaly` (R88). -/
def anomalyWire (s : State) : Bool := s.anomaly

end Sys2Proof.Machine
end

