-- ==== Sys2Proof/Machine/Step.lean ====
section
/-!
DEFINITION. One rising edge of `clk` (spec/30_encoding.md R89; spec/45_step.md R233), and the placing of an operation
where the next step runs it.
-/
namespace Sys2Proof.Machine

/-- An edge that takes no step (R233): the state is unchanged and both output strobes are 0. -/
def holdEdge (s : State) : State := s.clearOutputs

/-- One clock edge. With `rst` the reset values are loaded and no step is taken, whatever `s_valid` is (R271); with
`s_valid` the sample is decoded and its row runs (R227); otherwise the state is held (R233). Where the host presents
nothing, the edge is one with `s_valid` = 0 (log entry 7). -/
def step (s : State) : Host.Outcome State Fault Refusal :=
  match s.input with
  | [] => .next (holdEdge (s.takeEdge []))
  | e :: rest =>
    if e.rst then .next ((s.takeEdge rest).loadReset e.cfgVerbosity)
    else if e.sValid then
      match decode (fetchSample e (s.takeEdge rest)) with
      | .ok i => exec i (s.takeEdge rest)
      | .error _ => .next (holdEdge (s.takeEdge rest))
    else .next (holdEdge (s.takeEdge rest))

/-- An edge that presents the sample `v` at time `ts`. -/
def sampleEdge (v : SampleWord) (ts : Nat) : Edge := ⟨false, true, v, ts, 0⟩

/-- `s`, about to accept a boundary sample at time 1 whose Deassert, if any, is at time 0. -/
def State.beforeBoundary (s : State) : State :=
  { s with lastSampleTime := some 0, fastestGap := 0, input := sampleEdge 0 1 :: s.input }

/-- `s` with the operation of a bare table word placed where the next step runs it (log entry 5):
* a sample is presented as the next input, in single-wire mode;
* a command is the open transaction, and the next sample is the boundary that closes it, from time 0 to time 0;
* a marker is placed so that the next sample emits it.
The reserved tag 0b11 places nothing. -/
def State.withFetchWord (s : State) (nbits w : Nat) : State :=
  match tableCode nbits w with
  | .sample _ v ts => { s with quadSwitchPoint := none, input := sampleEdge v ts :: s.input }
  | .transaction M S sp =>
    { s.beforeBoundary with
      txnOpen := true, transactionCount := 1, transactionStartTime := sp.startTime, mosiBytes := M, misoBytes := S }
  | .marker _ _ tag _ m r =>
    if tag = 0b00#2 then { s.beforeBoundary with txnOpen := false, transactionCount := 0, mosiBytes := [], misoBytes := [] }
    else if tag = 0b01#2 then
      { s with
        quadSwitchPoint := none, clockCount := 15, mosiShift := m, misoShift := r, txnOpen := true,
        input := sampleEdge 0 0 :: s.input }
    else if tag = 0b10#2 then
      { s.beforeBoundary with txnOpen := true, transactionCount := 1, mosiBytes := [], misoBytes := [] }
    else s

end Sys2Proof.Machine
end

