-- ==== Sys2Proof/Machine/Formatter.lean ====
section
/-!
DEFINITION. The text mapping of spec/43_interpreter.md R196 (spec/30_encoding.md R91). The block outputs no text; the
mapping belongs to the downstream formatter, and no step calls it.
-/
namespace Sys2Proof.Machine

/-- One character of base 16, from `0-9A-F`. -/
def hexDigit (n : Nibble) : Char :=
  if n.toNat < 10 then Char.ofNat (48 + n.toNat) else Char.ofNat (55 + n.toNat)

/-- `HEX2(b)`: the two characters of `b` in base 16. -/
def hex2 (b : Byte) : List Char := [hexDigit (b.extractLsb' 4 4), hexDigit (b.extractLsb' 0 4)]

/-- The axis names of R187. -/
def axisText : Axis → String
  | .x => "X Offset"
  | .y => "Y Offset"
  | .z => "Z Offset"

/-- The texts a formatter renders for a record's payload, address or axis before value. -/
def payloadText : Payload → List (List Char)
  | .readRegister a (some v) => [hex2 a, hex2 v]
  | .readRegister a none => [hex2 a, "not available".toList]
  | .writeRegister a v => [hex2 a, hex2 v]
  | .setOffset axis v => [(axisText axis).toList, hex2 v]
  | .readFifo v => [hex2 v]
  | .readDeviceId v => [hex2 v]
  | .error => ["unknown command".toList]

end Sys2Proof.Machine
end

