-- ==== Sys2Proof/Machine/Interpreter.lean ====
section
/-!
DEFINITION. `Interpret` written as spec/43_interpreter.md R181 writes it: one function with indexed reads under length
guards. The block runs the decoder and the command rows instead; a statement of Obligations.lean says the two agree on
every pair of byte sequences.
-/
namespace Sys2Proof.Machine

/-- R181, arm by arm. `M` and `S` are the MOSI and MISO bytes, `sp` the two times. An index is read only where a test
of the same arm has shown it present, so the default of `getD` is never taken. -/
def interpret (M S : List Byte) (sp : Span) : Record :=
  if 1 ≤ M.length ∧ M.getD 0 0#8 = 0x0B#8 ∧ 2 ≤ M.length then
    let a := M.getD 1 0#8
    if (a = 0x00#8 ∨ a = 0x01#8 ∨ a = 0x02#8) ∧ 3 ≤ S.length then ⟨sp, .readDeviceId (S.getD 2 0#8)⟩
    else if 3 ≤ S.length then ⟨sp, .readRegister a (some (S.getD 2 0#8))⟩
    else ⟨sp, .readRegister a none⟩
  else if 1 ≤ M.length ∧ M.getD 0 0#8 = 0x0A#8 ∧ 3 ≤ M.length then
    let a := M.getD 1 0#8
    let w := M.getD 2 0#8
    if a = 0x33#8 then ⟨sp, .setOffset .x w⟩
    else if a = 0x34#8 then ⟨sp, .setOffset .y w⟩
    else if a = 0x35#8 then ⟨sp, .setOffset .z w⟩
    else ⟨sp, .writeRegister a w⟩
  else if 1 ≤ M.length ∧ M.getD 0 0#8 = 0x0D#8 ∧ 2 ≤ S.length then ⟨sp, .readFifo (S.getD 1 0#8)⟩
  else ⟨sp, .error⟩

end Sys2Proof.Machine
end

