-- ==== Sys2Proof/Safety.lean ====
section
/-!
DEFINITION. The terms claims use: the invariant between steps (spec/10_state.md R41), runs of clock edges, and the events
of an edge.

A run of this block is safe when every edge answers a next state (spec/60_exceptions.md R240: "No exception halts, stalls
or redirects the block"), every state of it meets `State.Inv`, and the output strobes keep R229 and R245.
-/
namespace Sys2Proof.Machine

/-- Every field fits the width its rule gives it (R20, R73, R83). -/
abbrev State.Widths (s : State) : Prop :=
  s.fastestGap < 2 ^ s.params.tsW ∧
  s.lastSampleTime.all (fits s.params.tsW) = true ∧
  s.transactionCount < 2 ^ s.params.tcW ∧
  s.clockCount < 2 ^ s.params.ccW ∧
  s.quadSwitchPoint.all (fits s.params.ccW) = true ∧
  s.transactionStartTime < 2 ^ s.params.tsW ∧
  s.recOut.all (fun r => r.span.wellFormed s.params) = true

/-- R41 (a): with no transaction open both sequences are empty, and their lengths are always equal. -/
abbrev State.BytesPaired (s : State) : Prop :=
  (s.txnOpen = false → s.mosiBytes = [] ∧ s.misoBytes = []) ∧ s.mosiBytes.length = s.misoBytes.length

/-- R41 (d) and (e): a transaction is open exactly after the first boundary, and a boundary needs a previous sample. -/
abbrev State.CountAgrees (s : State) : Prop :=
  (s.txnOpen = true ↔ 0 < s.transactionCount) ∧ (0 < s.transactionCount → s.lastSampleTime.isSome = true)

/-- R245 and R162: an `anomaly` pulse comes with `empty_result_warned` set and with no record. -/
abbrev State.OutputsAgree (s : State) : Prop :=
  s.anomaly = true → s.emptyResultWarned = true ∧ s.recOut = none

/-- What holds between steps: the parameters are admissible, the widths hold, R41 (a), (d), (e), R245; `fastest_gap` is
at most its reset value (R22), `continuous_mode` is as built (R25), a transaction of continuous mode is never empty
(R167), and without a hook entry there is no switch point (R27). -/
abbrev State.Inv (s : State) : Prop :=
  s.params.Wf ∧ s.Widths ∧ s.BytesPaired ∧ s.CountAgrees ∧ s.OutputsAgree ∧
  s.fastestGap ≤ s.params.fastestGapInit ∧
  s.continuousMode = s.params.contModeInit ∧
  (s.continuousMode = true → s.txnOpen = true → s.mosiBytes ≠ []) ∧
  (s.params.quadTrigger = [] → s.quadSwitchPoint = none)

/-! ## Runs -/

/-- The first `n` edges from `s`: the state before and the state after each. -/
def steps : Nat → State → List (State × State)
  | 0, _ => []
  | n + 1, s =>
    match step s with
    | .next t => (s, t) :: steps n t
    | .fault _ => []
    | .refused _ => []

/-- The records output over `n` edges, in order. -/
def recordsOut (n : Nat) (s : State) : List Record := (steps n s).filterMap (fun p => p.2.recOut)

/-- The edge that `s` is about to take is a reset edge (R271). -/
def takesReset (s : State) : Bool :=
  match s.input with
  | [] => false
  | e :: _ => e.rst

/-- The edge that `s` is about to take accepts a sample at which a transaction start is inferred (R103). -/
def takesBoundary (s : State) : Bool :=
  match s.input with
  | [] => false
  | e :: _ => !e.rst && e.sValid && isBoundary e.sValue (portTime e s) s

/-- The edge that `s` is about to take emits a Deassert marker (R104). -/
def takesDeassert (s : State) : Bool := takesBoundary s && decide (0 < s.transactionCount)

/-- The edges that present the samples `xs`, one per edge. -/
def sampleEdges (xs : List (SampleWord × Nat)) : List Edge := xs.map (fun x => sampleEdge x.1 x.2)

/-- The gaps of the samples at times `ts` after a sample at time `last`, 0 where a timestamp decreases (R100, R101). -/
def gapsAfter : Nat → List Nat → List Nat
  | _, [] => []
  | last, t :: ts => (t - last) :: gapsAfter t ts

/-- The byte whose bits are `bits`, the first one in bit 7 after eight (R11, R53). -/
def byteOfBits (bits : List Bool) : Byte := BitVec.ofNat 8 (bits.foldl (fun n b => 2 * n + b.toNat) 0)

/-- The bounded form of the byte sequences (spec/20_memory.md R52): entries 0 to 2, and a length that saturates at 3. -/
def State.bounded (s : State) : State :=
  { s with mosiBytes := s.mosiBytes.take 3, misoBytes := s.misoBytes.take 3 }

end Sys2Proof.Machine
end

