-- ==== Sys2Proof/Certificates/Slice0/Obligations.lean ====
section
/-!
DEFINITION. The statements for the provers. OBLIGATIONS.json lists them with the rules they formalise.
-/

open Sys2Proof Sys2Proof.Machine

/-! ## Encoding -/

/-- Decoding the code of a well-formed operation gives the operation back, for every row and every operand. The
encoder's choice of the unread bytes (0) and of the mode bits is the model's (log entry 11). -/
def Obligations.DecodeInvertsEncode : Prop :=
  ∀ (P : Params) (i : Instr), i.wellFormed P = true → decode (encode i) = .ok i

/-- The sample decoder keeps every bit of the sample word and its time: encoding what it gives writes them back. -/
def Obligations.SampleDecodingKeepsEveryBit : Prop :=
  ∀ (quad : Bool) (v : SampleWord) (ts : Nat) (i : Instr),
    decode (.sample quad v ts) = .ok i → encode i = .sample (quad && !v.getLsbD 15) v ts

/-- R181: every pair of byte sequences, of whatever lengths, decodes to a command row whose record is `Interpret`'s. -/
def Obligations.CommandRowsAreInterpret : Prop :=
  ∀ (M S : List Byte) (sp : Span), ∃ i,
    decode (.transaction M S sp) = .ok i ∧ commandRecord i = some (interpret M S sp)

/-- R75 with the row conditions of spec/opcode_table.json: the three marker tags select the marker rows, and tag 0b11,
"never produced", is refused (the model's choice, log entry 11). -/
def Obligations.MarkerTagsSelectRows : Prop :=
  ∀ (o e : Bool) (t : Nat) (m r : Byte),
    decode (.marker o e 0b00#2 t m r) = .ok (.mkAssert t) ∧
    decode (.marker o e 0b01#2 t m r) = .ok (if o then .mkBytepairOpen m r else .mkBytepairOrphan m r) ∧
    decode (.marker o e 0b10#2 t m r) = .ok (if e then .mkDeassertEmpty t else .mkDeassert t) ∧
    decode (.marker o e 0b11#2 t m r) = .error .reservedMarkerTag

/-- A few words written out from the spec's encodings decode to the operations they stand for. -/
def Obligations.WrittenWordsDecode : Prop :=
  decode (.transaction [0x0B#8, 0x20#8, 0x00#8] [0x00#8, 0x00#8, 0x05#8] ⟨100, 330⟩)
      = .ok (.rdReg ⟨100, 330⟩ 0x20#8 0x05#8) ∧
  decode (.transaction [0x0A#8, 0x34#8, 0x80#8] [0x00#8, 0x00#8, 0x00#8] ⟨1, 2⟩)
      = .ok (.setOffsetY ⟨1, 2⟩ 0x80#8) ∧
  decode (.transaction [0x0D#8, 0x00#8] [0x00#8, 0x42#8] ⟨1, 2⟩) = .ok (.rdFifo ⟨1, 2⟩ 0x42#8) ∧
  decode (.sample false 0b1000000000000000#16 7) = .ok (.smpIdle 0 7) ∧
  decode (.sample false 0b0000000000000010#16 7) = .ok (.smpActive1w 2 7) ∧
  decode (.sample true 0b0000000000001010#16 7) = .ok (.smpActive4w 10 7)

/-- One edge that accepts a sample (R89, R227) runs the decoded operation: `step` takes the edge off the input and
answers what `exec` answers. The mode bit of the sample code is the mode choice after the detector (R74). -/
def Obligations.StepRunsTheDecodedSample : Prop :=
  ∀ (s : State) (e : Edge) (rest : List Edge) (i : Instr),
    s.input = e :: rest → e.rst = false → e.sValid = true →
    decode (.sample (quadAfterDetector e.sValue (e.sTs % 2 ^ s.params.tsW) s) e.sValue (e.sTs % 2 ^ s.params.tsW)) = .ok i →
    step s = exec i { s with input := rest, freeIndex := s.freeIndex + 1 }

/-- A Deassert of a non-empty transaction runs the command row its bytes decode to, and then closes the transaction. -/
def Obligations.DeassertRunsTheDecodedCommand : Prop :=
  ∀ (s u : State) (t : Nat) (i : Instr),
    s.mosiBytes ≠ [] → s.misoBytes ≠ [] →
    decode (.transaction s.mosiBytes s.misoBytes ⟨s.transactionStartTime, t⟩) = .ok i → exec i s = .next u →
    exec (.mkDeassert t) s = .next { u with txnOpen := false, mosiBytes := [], misoBytes := [] }

/-- A consumed marker is the marker row that its tag and the state's row conditions decode to (R227, R228). -/
def Obligations.ConsumedMarkerIsItsRow : Prop :=
  ∀ (s : State) (k : Marker) (time : Nat) (m r : Byte) (i : Instr),
    (∀ t, k = .assert t → time = t) → (∀ t, k = .deassert t → time = t) →
    (∀ a b, k = .bytePair a b → m = a ∧ r = b) →
    decode (.marker s.txnOpen (s.mosiBytes.isEmpty || s.misoBytes.isEmpty) k.tag time m r) = .ok i →
    exec i s = .next (consume k s)

/-! ## The device grammar -/

/-- Every command operation completes in every state: its record goes through the filter to the record output, and
nothing else changes (R180, R220). -/
def Obligations.CommandRowsComplete : Prop :=
  ∀ (s : State) (sp : Span) (a v : Byte),
    (∀ i ∈ [Instr.rdDevid00 sp v, .rdDevid01 sp v, .rdDevid02 sp v],
      exec i s = .next { s with
        recOut :=
          if passes s.params s.verbosity .readDeviceId then some ⟨sp, .readDeviceId v⟩ else s.recOut }) ∧
    exec (.rdReg sp a v) s = .next { s with
      recOut :=
        if passes s.params s.verbosity .readRegister then some ⟨sp, .readRegister a (some v)⟩ else s.recOut } ∧
    exec (.rdRegNa sp a) s = .next { s with
      recOut :=
        if passes s.params s.verbosity .readRegister then some ⟨sp, .readRegister a none⟩ else s.recOut } ∧
    exec (.setOffsetX sp v) s = .next { s with
      recOut :=
        if passes s.params s.verbosity .setOffset then some ⟨sp, .setOffset .x v⟩ else s.recOut } ∧
    exec (.setOffsetY sp v) s = .next { s with
      recOut :=
        if passes s.params s.verbosity .setOffset then some ⟨sp, .setOffset .y v⟩ else s.recOut } ∧
    exec (.setOffsetZ sp v) s = .next { s with
      recOut :=
        if passes s.params s.verbosity .setOffset then some ⟨sp, .setOffset .z v⟩ else s.recOut } ∧
    exec (.wrReg sp a v) s = .next { s with
      recOut :=
        if passes s.params s.verbosity .writeRegister then some ⟨sp, .writeRegister a v⟩ else s.recOut } ∧
    exec (.rdFifo sp v) s = .next { s with
      recOut :=
        if passes s.params s.verbosity .readFifo then some ⟨sp, .readFifo v⟩ else s.recOut } ∧
    (∀ i ∈ [Instr.errShortRd sp, .errShortWr sp, .errShortFifo sp, .errUnknown sp a, .errEmpty sp],
      exec i s = .next { s with
        recOut :=
          if passes s.params s.verbosity .error then some ⟨sp, .error⟩ else s.recOut })

/-- R183: 0x0B with an address 0x00, 0x01 or 0x02, at least 2 MOSI and at least 3 MISO bytes. -/
def Obligations.ReadDeviceIdRecord : Prop :=
  ∀ (M S : List Byte) (b c v : Byte) (sp : Span) (s : State),
    decode (.transaction (0x0B#8 :: 0x00#8 :: M) (b :: c :: v :: S) sp) = .ok (.rdDevid00 sp v) ∧
    decode (.transaction (0x0B#8 :: 0x01#8 :: M) (b :: c :: v :: S) sp) = .ok (.rdDevid01 sp v) ∧
    decode (.transaction (0x0B#8 :: 0x02#8 :: M) (b :: c :: v :: S) sp) = .ok (.rdDevid02 sp v) ∧
    (∀ i ∈ [Instr.rdDevid00 sp v, .rdDevid01 sp v, .rdDevid02 sp v],
      exec i s = .next { s with
        recOut :=
          if passes s.params s.verbosity .readDeviceId then some ⟨sp, .readDeviceId v⟩ else s.recOut })

/-- R184: 0x0B with any other address, at least 2 MOSI and at least 3 MISO bytes. -/
def Obligations.ReadRegisterRecord : Prop :=
  ∀ (M S : List Byte) (a b c v : Byte) (sp : Span) (s : State), a ≠ 0x00#8 → a ≠ 0x01#8 → a ≠ 0x02#8 →
    decode (.transaction (0x0B#8 :: a :: M) (b :: c :: v :: S) sp) = .ok (.rdReg sp a v) ∧
    exec (.rdReg sp a v) s = .next { s with
      recOut :=
        if passes s.params s.verbosity .readRegister then some ⟨sp, .readRegister a (some v)⟩ else s.recOut }

/-- R185: 0x0B with at least 2 MOSI and fewer than 3 MISO bytes, at any address. -/
def Obligations.ReadRegisterWithoutValueRecord : Prop :=
  ∀ (M S : List Byte) (a : Byte) (sp : Span) (s : State), S.length < 3 →
    decode (.transaction (0x0B#8 :: a :: M) S sp) = .ok (.rdRegNa sp a) ∧
    exec (.rdRegNa sp a) s = .next { s with
      recOut :=
        if passes s.params s.verbosity .readRegister then some ⟨sp, .readRegister a none⟩ else s.recOut }

/-- R186: 0x0A with at least 3 MOSI bytes and an address outside 0x33 to 0x35; the MISO bytes are not read. -/
def Obligations.WriteRegisterRecord : Prop :=
  ∀ (M S : List Byte) (a w : Byte) (sp : Span) (s : State), a ≠ 0x33#8 → a ≠ 0x34#8 → a ≠ 0x35#8 →
    decode (.transaction (0x0A#8 :: a :: w :: M) S sp) = .ok (.wrReg sp a w) ∧
    exec (.wrReg sp a w) s = .next { s with
      recOut :=
        if passes s.params s.verbosity .writeRegister then some ⟨sp, .writeRegister a w⟩ else s.recOut }

/-- R187: 0x0A with at least 3 MOSI bytes and an offset register as its address. -/
def Obligations.SetOffsetRecord : Prop :=
  ∀ (M S : List Byte) (w : Byte) (sp : Span) (s : State),
    (decode (.transaction (0x0A#8 :: 0x33#8 :: w :: M) S sp) = .ok (.setOffsetX sp w) ∧
      exec (.setOffsetX sp w) s = .next { s with
        recOut :=
          if passes s.params s.verbosity .setOffset then some ⟨sp, .setOffset .x w⟩ else s.recOut }) ∧
    (decode (.transaction (0x0A#8 :: 0x34#8 :: w :: M) S sp) = .ok (.setOffsetY sp w) ∧
      exec (.setOffsetY sp w) s = .next { s with
        recOut :=
          if passes s.params s.verbosity .setOffset then some ⟨sp, .setOffset .y w⟩ else s.recOut }) ∧
    (decode (.transaction (0x0A#8 :: 0x35#8 :: w :: M) S sp) = .ok (.setOffsetZ sp w) ∧
      exec (.setOffsetZ sp w) s = .next { s with
        recOut :=
          if passes s.params s.verbosity .setOffset then some ⟨sp, .setOffset .z w⟩ else s.recOut })

/-- R188: 0x0D with at least 2 MISO bytes; only the first FIFO data byte is reported. -/
def Obligations.ReadFifoRecord : Prop :=
  ∀ (M S : List Byte) (b v : Byte) (sp : Span) (s : State),
    decode (.transaction (0x0D#8 :: M) (b :: v :: S) sp) = .ok (.rdFifo sp v) ∧
    exec (.rdFifo sp v) s = .next { s with
      recOut :=
        if passes s.params s.verbosity .readFifo then some ⟨sp, .readFifo v⟩ else s.recOut }

/-- R189: any other command code, whatever the MISO bytes are. -/
def Obligations.UnknownCommandRecord : Prop :=
  ∀ (M S : List Byte) (c : Byte) (sp : Span) (s : State), c ≠ 0x0A#8 → c ≠ 0x0B#8 → c ≠ 0x0D#8 →
    decode (.transaction (c :: M) S sp) = .ok (.errUnknown sp c) ∧
    exec (.errUnknown sp c) s = .next { s with
      recOut :=
        if passes s.params s.verbosity .error then some ⟨sp, .error⟩ else s.recOut }

/-- R190: a known command with too few bytes. -/
def Obligations.ShortCommandRecord : Prop :=
  ∀ (M S : List Byte) (sp : Span) (s : State),
    decode (.transaction [0x0B#8] S sp) = .ok (.errShortRd sp) ∧
    (M.length < 2 → decode (.transaction (0x0A#8 :: M) S sp) = .ok (.errShortWr sp)) ∧
    (S.length < 2 → decode (.transaction (0x0D#8 :: M) S sp) = .ok (.errShortFifo sp)) ∧
    (∀ i ∈ [Instr.errShortRd sp, .errShortWr sp, .errShortFifo sp],
      exec i s = .next { s with
        recOut :=
          if passes s.params s.verbosity .error then some ⟨sp, .error⟩ else s.recOut })

/-- R191 ("The arm exists so the function is total"): no MOSI byte at all. -/
def Obligations.EmptyCommandRecord : Prop :=
  ∀ (S : List Byte) (sp : Span) (s : State),
    decode (.transaction [] S sp) = .ok (.errEmpty sp) ∧
    exec (.errEmpty sp) s = .next { s with
      recOut :=
        if passes s.params s.verbosity .error then some ⟨sp, .error⟩ else s.recOut }

/-- R193, which the spec derives from R181: the first MISO byte never counts, and bytes appended after index 2 change
nothing once both sequences have at least 3 bytes. -/
def Obligations.IgnoredBytesChangeNoRecord : Prop :=
  ∀ (M M' S S' : List Byte) (b c : Byte) (sp : Span),
    (3 ≤ M.length → 3 ≤ S.length →
      decode (.transaction (M ++ M') (S ++ S') sp) = decode (.transaction M S sp)) ∧
    decode (.transaction M (b :: S) sp) = decode (.transaction M (c :: S) sp)

/-! ## The output filter -/

/-- R220: the filter predicate, level by level. -/
def Obligations.FilterPredicate : Prop :=
  ∀ (P : Params) (k : Kind),
    passes P .everything k = true ∧
    (passes P .onlyData k = true ↔ k ∉ P.controlKinds) ∧
    (passes P .onlyErrors k = true ↔ k = .error) ∧
    (passes P .onlyControl k = true ↔ k ∈ P.controlKinds)

/-- R223: at verbosity OnlyErrors no edge outputs a record of another kind. -/
def Obligations.OnlyErrorsOutputsErrorsOnly : Prop :=
  ∀ (s t : State) (r : Record),
    s.verbosity = .onlyErrors → step s = .next t → t.recOut = some r → r.payload = .error

/-- R224, first corner case: at verbosity OnlyControl with no control kind, no edge outputs a record. -/
def Obligations.OnlyControlOutputsNothing : Prop :=
  ∀ (s t : State),
    s.verbosity = .onlyControl → s.params.controlKinds = [] → step s = .next t → t.recOut = none

/-- R225, which the spec derives from R220 and R164: over any number of edges, another verbosity changes nothing but the
records output (and `verbosity` itself); R226: the anomaly report is among what it does not change. -/
def Obligations.VerbosityChangesOnlyRecords : Prop :=
  ∀ (n : Nat) (s t : State) (vb : Verbosity),
    Sys2Proof.core.run n s = .next t →
    ∃ u : State, Sys2Proof.core.run n { s with verbosity := vb } = .next u ∧
      { u with verbosity := t.verbosity, recOut := t.recOut } = t

/-! ## Markers -/

/-- R160. -/
def Obligations.AssertOpensTransaction : Prop :=
  ∀ (s : State) (t : Nat),
    exec (.mkAssert t) s =
      .next { s with txnOpen := true, mosiBytes := [], misoBytes := [], transactionStartTime := t }

/-- R161. -/
def Obligations.BytePairIsAppended : Prop :=
  ∀ (s : State) (m r : Byte), s.txnOpen = true →
    exec (.mkBytepairOpen m r) s =
      .next { s with mosiBytes := s.mosiBytes ++ [m], misoBytes := s.misoBytes ++ [r] }

/-- R162, R242: a byte pair with no open transaction is discarded and reported on the first occurrence only. -/
def Obligations.OrphanPairIsReportedOnce : Prop :=
  ∀ (s : State) (m r : Byte), s.txnOpen = false →
    (s.emptyResultWarned = false →
      exec (.mkBytepairOrphan m r) s = .next { s with emptyResultWarned := true, anomaly := true }) ∧
    (s.emptyResultWarned = true → exec (.mkBytepairOrphan m r) s = .next s)

/-- R163. -/
def Obligations.EmptyDeassertGivesNoRecord : Prop :=
  ∀ (s : State) (t : Nat), s.mosiBytes = [] ∨ s.misoBytes = [] →
    exec (.mkDeassertEmpty t) s = .next { s with txnOpen := false, mosiBytes := [], misoBytes := [] }

/-- R164: a non-empty transaction is interpreted, its record is filtered, and the transaction is closed. -/
def Obligations.DeassertOutputsTheRecord : Prop :=
  ∀ (s : State) (t : Nat), s.mosiBytes ≠ [] → s.misoBytes ≠ [] →
    exec (.mkDeassert t) s = .next { s with
      txnOpen := false, mosiBytes := [], misoBytes := []
      recOut :=
        if passes s.params s.verbosity (interpret s.mosiBytes s.misoBytes ⟨s.transactionStartTime, t⟩).payload.kind
        then some (interpret s.mosiBytes s.misoBytes ⟨s.transactionStartTime, t⟩) else s.recOut }

/-- The model's reading of the guards of R161 to R164 (log entry 10): outside its own guard a marker row changes
nothing. -/
def Obligations.MarkerRowsKeepTheirGuards : Prop :=
  ∀ (s : State) (m r : Byte) (t : Nat),
    (s.txnOpen = false → exec (.mkBytepairOpen m r) s = .next s) ∧
    (s.txnOpen = true → exec (.mkBytepairOrphan m r) s = .next s) ∧
    (s.mosiBytes ≠ [] → s.misoBytes ≠ [] → exec (.mkDeassertEmpty t) s = .next s) ∧
    (s.mosiBytes = [] ∨ s.misoBytes = [] → exec (.mkDeassert t) s = .next s)

/-! ## The detector -/

/-- R100, R101, R102, R107: every accepted sample, idle ones included, takes the gap to the previous sample, lowers the
threshold to four times it if that is less, and records its own time. -/
def Obligations.EverySampleUpdatesThresholdAndTime : Prop :=
  ∀ (s : State) (data : SampleData) (ts : Nat) (i : Instr),
    i ∈ [Instr.smpIdle data ts, .smpActive1w data ts, .smpActive4w data ts] →
    ∃ t, exec i s = .next t ∧ t.lastSampleTime = some ts ∧
      t.fastestGap = min (4 *
        (match s.lastSampleTime with
          | none => s.fastestGap
          | some last => if ts ≥ last then ts - last else 0)) s.fastestGap

/-- R108: an idle sample changes the threshold and the last sample time, and outputs nothing. -/
def Obligations.IdleSampleIsDiscarded : Prop :=
  ∀ (s : State) (data : SampleData) (ts : Nat),
    exec (.smpIdle data ts) s = .next { s with
      fastestGap := min (4 * gapOf ts s) s.fastestGap, lastSampleTime := some ts, recOut := none, anomaly := false }

/-- R110, which the spec derives from R102 and R103: comparing with the updated threshold is comparing with the old one.
-/
def Obligations.BoundaryTestIgnoresTheUpdate : Prop :=
  ∀ (v : SampleWord) (ts : Nat) (s : State),
    isBoundary v ts s = true ↔ s.fastestGap < gapOf ts s ∧ v.getLsbD 15 = false

/-- R103: an active sample whose gap does not exceed the threshold starts no transaction: count, start time and
`txn_open` stay, no record leaves, and at most one byte pair is added. -/
def Obligations.SmallGapStartsNoTransaction : Prop :=
  ∀ (s : State) (data : SampleData) (ts : Nat) (i : Instr),
    i ∈ [Instr.smpActive1w data ts, .smpActive4w data ts] → gapOf ts s ≤ s.fastestGap →
    ∃ t, exec i s = .next t ∧
      t.transactionCount = s.transactionCount ∧ t.transactionStartTime = s.transactionStartTime ∧
      t.txnOpen = s.txnOpen ∧ t.recOut = none ∧
      ((t.mosiBytes = s.mosiBytes ∧ t.misoBytes = s.misoBytes) ∨
        (s.txnOpen = true ∧ ∃ m r, t.mosiBytes = s.mosiBytes ++ [m] ∧ t.misoBytes = s.misoBytes ++ [r]))

/-- R104 with R163, R164 and R182: the record of the transaction that a boundary closes runs from its Assert time to the
time of the previous sample; the first boundary and an empty transaction give none. -/
def Obligations.BoundaryReportsThePreviousTransaction : Prop :=
  ∀ (s : State) (data : SampleData) (ts last : Nat) (i : Instr),
    i ∈ [Instr.smpActive1w data ts, .smpActive4w data ts] →
    s.lastSampleTime = some last → s.fastestGap < gapOf ts s →
    ∃ t, exec i s = .next t ∧
      t.recOut =
        if 0 < s.transactionCount ∧ s.mosiBytes ≠ [] ∧ s.misoBytes ≠ [] ∧
            passes s.params s.verbosity (interpret s.mosiBytes s.misoBytes ⟨s.transactionStartTime, last⟩).payload.kind
        then some (interpret s.mosiBytes s.misoBytes ⟨s.transactionStartTime, last⟩) else none

/-- R105: a boundary opens a transaction at the sample's own time and counts it, saturating at `2 ^ TC_W - 1`. -/
def Obligations.BoundaryOpensTheNextTransaction : Prop :=
  ∀ (s : State) (data : SampleData) (ts : Nat) (i : Instr),
    i ∈ [Instr.smpActive1w data ts, .smpActive4w data ts] → s.fastestGap < gapOf ts s →
    ∃ t, exec i s = .next t ∧ t.txnOpen = true ∧ t.transactionStartTime = ts ∧
      t.transactionCount =
        if s.transactionCount < 2 ^ s.params.tcW - 1 then s.transactionCount + 1 else s.transactionCount

/-- R106 with R131 and R141: the whole effect of a boundary sample outside continuous mode, but for the record output,
which it leaves to BoundaryReportsThePreviousTransaction. The frame restarts, and the sample is bit 7 of byte 0. -/
def Obligations.BoundarySampleRestartsTheFrame : Prop :=
  ∀ (s : State) (data : SampleData) (ts : Nat) (i : Instr),
    i ∈ [Instr.smpActive1w data ts, .smpActive4w data ts] →
    s.continuousMode = false → 1 ≤ s.params.ccW → s.fastestGap < gapOf ts s →
    ∃ rec, exec i s = .next { s with
      fastestGap := min (4 * gapOf ts s) s.fastestGap
      lastSampleTime := some ts
      transactionCount :=
        if s.transactionCount < 2 ^ s.params.tcW - 1 then s.transactionCount + 1 else s.transactionCount
      clockCount := 1
      quadSwitchPoint := none
      mosiShift := (BitVec.ofBool (data.getLsbD 0)).setWidth 8
      misoShift := (BitVec.ofBool (data.getLsbD 1)).setWidth 8
      quadShift := 0x00#8
      commandByte := none
      txnOpen := true
      mosiBytes := []
      misoBytes := []
      transactionStartTime := ts
      recOut := rec
      anomaly := false }

/-- R109 with R131 and R141: the whole effect, but for the record output, of a boundary sample of continuous mode whose
own clock is single-wire. The stored command byte (0x00 if there is none) is replayed as byte 0 with MISO 0x00, and the
sample is the first clock of byte 1. -/
def Obligations.ContinuousBoundaryReplaysTheCommand : Prop :=
  ∀ (s : State) (data : SampleData) (ts : Nat) (i : Instr),
    i ∈ [Instr.smpActive1w data ts, .smpActive4w data ts] →
    s.continuousMode = true → 4 ≤ s.params.ccW → s.fastestGap < gapOf ts s →
    (s.quadSwitchPoint = none ∨ ∃ p, s.quadSwitchPoint = some p ∧ 8 < p) →
    ∃ rec, exec i s = .next { s with
      fastestGap := min (4 * gapOf ts s) s.fastestGap
      lastSampleTime := some ts
      transactionCount :=
        if s.transactionCount < 2 ^ s.params.tcW - 1 then s.transactionCount + 1 else s.transactionCount
      clockCount := 9
      mosiShift := (s.mosiShift <<< 1) ||| (BitVec.ofBool (data.getLsbD 0)).setWidth 8
      misoShift := (s.misoShift <<< 1) ||| (BitVec.ofBool (data.getLsbD 1)).setWidth 8
      txnOpen := true
      mosiBytes := [s.commandByte.getD 0x00#8]
      misoBytes := [0x00#8]
      transactionStartTime := ts
      recOut := rec
      anomaly := false }

/-- R109 with R136, R137 and R141: the whole effect, but for the record output, of a boundary sample of continuous mode
whose own clock is quad-wire. At an odd offset from the switch point the same step adds the replay pair and then a quad
pair whose high nibble is the residue (R138 case (a), which the spec derives). -/
def Obligations.ContinuousBoundaryOnAQuadClock : Prop :=
  ∀ (s : State) (data : SampleData) (ts : Nat) (p : Nat) (q : Byte) (i : Instr),
    i ∈ [Instr.smpActive1w data ts, .smpActive4w data ts] →
    s.continuousMode = true → 4 ≤ s.params.ccW → s.fastestGap < gapOf ts s →
    s.quadSwitchPoint = some p → p ≤ 8 →
    q = (s.quadShift <<< 4) ||| (data.extractLsb' 0 4).setWidth 8 →
    ∃ rec, exec i s = .next { s with
      fastestGap := min (4 * gapOf ts s) s.fastestGap
      lastSampleTime := some ts
      transactionCount :=
        if s.transactionCount < 2 ^ s.params.tcW - 1 then s.transactionCount + 1 else s.transactionCount
      clockCount := 9
      quadShift := if p % 2 = 1 then 0x00#8 else q
      txnOpen := true
      mosiBytes := s.commandByte.getD 0x00#8 :: (if p % 2 = 1 then [q] else [])
      misoBytes := 0x00#8 :: (if p % 2 = 1 then [q] else [])
      transactionStartTime := ts
      recOut := rec
      anomaly := false }

/-- R111, which the spec derives from R100 and R102: over accepted samples the threshold becomes the least of itself and
four times each gap; the first sample after reset contributes no gap. -/
def Obligations.ThresholdIsFourTimesTheSmallestGap : Prop :=
  ∀ (s t : State) (x : SampleWord × Nat) (xs : List (SampleWord × Nat)) (rest : List Edge),
    s.input = sampleEdges (x :: xs) ++ rest → s.lastSampleTime = none →
    (∀ y ∈ x :: xs, y.2 < 2 ^ s.params.tsW) →
    Sys2Proof.core.run (xs.length + 1) s = .next t →
    t.fastestGap = (gapsAfter x.2 (xs.map Prod.snd)).foldl (fun m g => min m (4 * g)) s.fastestGap

/-- R113, which the spec derives from R102, R103 and R111: a zero threshold stays zero until reset, and then every
active sample with a positive gap starts a transaction. -/
def Obligations.ZeroThresholdIsPermanent : Prop :=
  ∀ (s : State), s.fastestGap = 0 →
    (takesReset s = false → ∃ t, step s = .next t ∧ t.fastestGap = 0) ∧
    (∀ (e : Edge) (rest : List Edge) (last : Nat),
      s.input = e :: rest → e.rst = false → e.sValid = true → e.sValue.getLsbD 15 = false →
      s.lastSampleTime = some last → last < e.sTs → e.sTs < 2 ^ s.params.tsW →
      ∃ t, step s = .next t ∧ t.txnOpen = true ∧ t.transactionStartTime = e.sTs)

/-- R115, which the spec derives from R100 to R103: with the largest initial threshold the first two accepted samples
after reset start no transaction. -/
def Obligations.FirstTwoSamplesStartNoTransaction : Prop :=
  ∀ (s : State) (e1 e2 : Edge) (rest : List Edge),
    s.fastestGap = 2 ^ s.params.tsW - 1 → s.lastSampleTime = none → s.transactionCount = 0 →
    s.input = e1 :: e2 :: rest → e1.rst = false → e2.rst = false →
    ∃ t, Sys2Proof.core.run 2 s = .next t ∧ t.transactionCount = 0 ∧ t.input = rest

/-! ## The accumulator -/

/-- R131, R141: a single-wire clock that completes no byte, with everything it changes. -/
def Obligations.SingleWireClockShiftsOneBit : Prop :=
  ∀ (s : State) (data : SampleData) (ts : Nat) (i : Instr),
    i ∈ [Instr.smpActive1w data ts, .smpActive4w data ts] → gapOf ts s ≤ s.fastestGap →
    (s.quadSwitchPoint = none ∨ ∃ p, s.quadSwitchPoint = some p ∧ s.clockCount < p) → s.clockCount % 8 ≠ 7 →
    exec i s = .next { s with
      fastestGap := min (4 * gapOf ts s) s.fastestGap
      lastSampleTime := some ts
      mosiShift := (s.mosiShift <<< 1) ||| (BitVec.ofBool (data.getLsbD 0)).setWidth 8
      misoShift := (s.misoShift <<< 1) ||| (BitVec.ofBool (data.getLsbD 1)).setWidth 8
      clockCount := (s.clockCount + 1) % 2 ^ s.params.ccW
      recOut := none
      anomaly := false }

/-- R133, R134, R135, R161, R162: a single-wire clock that completes a byte, with everything it changes. At `clock_count
= 7` the byte is captured and the hook may set the switch point; with no open transaction the pair is discarded and
`anomaly` pulses the first time. -/
def Obligations.SingleWireByteCompletes : Prop :=
  ∀ (s : State) (data : SampleData) (ts : Nat) (m r : Byte) (i : Instr),
    i ∈ [Instr.smpActive1w data ts, .smpActive4w data ts] → gapOf ts s ≤ s.fastestGap →
    (s.quadSwitchPoint = none ∨ ∃ p, s.quadSwitchPoint = some p ∧ s.clockCount < p) → s.clockCount % 8 = 7 →
    m = (s.mosiShift <<< 1) ||| (BitVec.ofBool (data.getLsbD 0)).setWidth 8 →
    r = (s.misoShift <<< 1) ||| (BitVec.ofBool (data.getLsbD 1)).setWidth 8 →
    exec i s = .next { s with
      fastestGap := min (4 * gapOf ts s) s.fastestGap
      lastSampleTime := some ts
      commandByte := if s.clockCount = 7 then some m else s.commandByte
      quadSwitchPoint :=
        if s.clockCount = 7 then (quadPoint s.params m).or s.quadSwitchPoint else s.quadSwitchPoint
      mosiBytes := if s.txnOpen then s.mosiBytes ++ [m] else s.mosiBytes
      misoBytes := if s.txnOpen then s.misoBytes ++ [r] else s.misoBytes
      mosiShift := 0x00#8
      misoShift := 0x00#8
      emptyResultWarned := s.emptyResultWarned || !s.txnOpen
      clockCount := (s.clockCount + 1) % 2 ^ s.params.ccW
      recOut := none
      anomaly := !s.txnOpen && !s.emptyResultWarned }

/-- R136, R137, R141: a quad-wire clock, with everything it changes: at an even offset from the switch point it shifts a
nibble in, at an odd one it emits the byte as both halves of a pair. -/
def Obligations.QuadWireClock : Prop :=
  ∀ (s : State) (data : SampleData) (ts : Nat) (p : Nat) (q : Byte) (i : Instr),
    i ∈ [Instr.smpActive1w data ts, .smpActive4w data ts] → gapOf ts s ≤ s.fastestGap →
    s.quadSwitchPoint = some p → p ≤ s.clockCount →
    q = (s.quadShift <<< 4) ||| (data.extractLsb' 0 4).setWidth 8 →
    ((s.clockCount - p) % 2 = 0 →
      exec i s = .next { s with
        fastestGap := min (4 * gapOf ts s) s.fastestGap
        lastSampleTime := some ts
        quadShift := q
        clockCount := (s.clockCount + 1) % 2 ^ s.params.ccW
        recOut := none
        anomaly := false }) ∧
    ((s.clockCount - p) % 2 = 1 →
      exec i s = .next { s with
        fastestGap := min (4 * gapOf ts s) s.fastestGap
        lastSampleTime := some ts
        mosiBytes := if s.txnOpen then s.mosiBytes ++ [q] else s.mosiBytes
        misoBytes := if s.txnOpen then s.misoBytes ++ [q] else s.misoBytes
        quadShift := 0x00#8
        emptyResultWarned := s.emptyResultWarned || !s.txnOpen
        clockCount := (s.clockCount + 1) % 2 ^ s.params.ccW
        recOut := none
        anomaly := !s.txnOpen && !s.emptyResultWarned })

/-- R53, R132, R139 (the last two the spec derives from R131, R133, R106 and R109): in an open transaction, eight active
single-wire samples from a multiple of 8 on, none of them a boundary, add exactly the byte of their MOSI bits and the
byte of their MISO bits, first bit in bit 7, whatever the accumulators held before. -/
def Obligations.EightSingleWireClocksMakeOneByte : Prop :=
  ∀ (s : State) (xs : List (SampleWord × Nat)) (rest : List Edge),
    s.input = sampleEdges xs ++ rest → xs.length = 8 → s.txnOpen = true → 4 ≤ s.params.ccW →
    s.clockCount < 2 ^ s.params.ccW → s.clockCount % 8 = 0 →
    (∀ x ∈ xs, x.1.getLsbD 15 = false) →
    (∀ st ∈ steps 8 s, takesBoundary st.1 = false ∧ isSingleWire st.1 = true) →
    ∃ t, Sys2Proof.core.run 8 s = .next t ∧
      t.mosiBytes = s.mosiBytes ++ [byteOfBits (xs.map (fun x => x.1.getLsbD 0))] ∧
      t.misoBytes = s.misoBytes ++ [byteOfBits (xs.map (fun x => x.1.getLsbD 1))] ∧
      t.mosiShift = 0x00#8 ∧ t.misoShift = 0x00#8

/-- R54, R137: in an open transaction, two active quad-wire samples from an even offset on, no boundary among them, add
the byte `(n1 << 4) | n2` to both sequences. -/
def Obligations.TwoQuadClocksMakeOneByte : Prop :=
  ∀ (s : State) (e1 e2 : Edge) (rest : List Edge) (p : Nat),
    s.input = e1 :: e2 :: rest → e1.rst = false → e2.rst = false → e1.sValid = true → e2.sValid = true →
    e1.sValue.getLsbD 15 = false → e2.sValue.getLsbD 15 = false →
    (∀ st ∈ steps 2 s, takesBoundary st.1 = false) →
    s.txnOpen = true → s.quadSwitchPoint = some p → p ≤ s.clockCount → (s.clockCount - p) % 2 = 0 →
    s.clockCount + 1 < 2 ^ s.params.ccW →
    ∃ t, Sys2Proof.core.run 2 s = .next t ∧ t.quadShift = 0x00#8 ∧
      t.mosiBytes = s.mosiBytes ++ [e1.sValue.extractLsb' 0 4 ++ e2.sValue.extractLsb' 0 4] ∧
      t.misoBytes = s.misoBytes ++ [e1.sValue.extractLsb' 0 4 ++ e2.sValue.extractLsb' 0 4]

/-- R70: of an active sample only bits 3:0 count, in single-wire mode only bits 1:0 do, and of an idle sample none. -/
def Obligations.IgnoredSampleBits : Prop :=
  ∀ (s : State) (d d' : SampleData) (ts : Nat),
    exec (.smpIdle d ts) s = exec (.smpIdle d' ts) s ∧
    (d.extractLsb' 0 4 = d'.extractLsb' 0 4 →
      exec (.smpActive1w d ts) s = exec (.smpActive1w d' ts) s ∧
      exec (.smpActive4w d ts) s = exec (.smpActive4w d' ts) s) ∧
    (d.extractLsb' 0 2 = d'.extractLsb' 0 2 → quadAfterDetector (sampleWord false d) ts s = false →
      exec (.smpActive1w d ts) s = exec (.smpActive1w d' ts) s)

/-! ## Clock edges and reset -/

/-- R240: every edge, whatever it carries and whatever the state is, is processed to a next state. -/
def Obligations.EveryEdgeIsProcessed : Prop := ∀ s : State, ∃ t, step s = .next t

/-- R270 at the default parameters of R6: the state right after reset. That `cfg_verbosity` was 0 at that reset is the
model's choice (log entry 8). -/
def Obligations.ResetState : Prop :=
  State.reset.lastSampleTime = none ∧ State.reset.fastestGap = 2 ^ 64 - 1 ∧ State.reset.transactionCount = 0 ∧
  State.reset.clockCount = 0 ∧ State.reset.continuousMode = false ∧ State.reset.commandByte = none ∧
  State.reset.quadSwitchPoint = none ∧ State.reset.mosiShift = 0x00#8 ∧ State.reset.misoShift = 0x00#8 ∧
  State.reset.quadShift = 0x00#8 ∧ State.reset.mosiBytes = [] ∧ State.reset.misoBytes = [] ∧
  State.reset.txnOpen = false ∧ State.reset.transactionStartTime = 0 ∧ State.reset.emptyResultWarned = false ∧
  State.reset.verbosity = verbosityOf 0

/-- R270, R271, R272: at a reset edge no step is taken whatever `s_valid` is, every field takes its reset value from the
parameters, the verbosity is latched from `cfg_verbosity` (all four codes legal, R85), and both strobes are 0. -/
def Obligations.ResetEdgeLoadsTheResetValues : Prop :=
  ∀ (s : State) (rest : List Edge) (valid : Bool) (v : SampleWord) (ts : Nat) (cfg : BitVec 2),
    s.input = ⟨true, valid, v, ts, cfg⟩ :: rest →
    step s = .next {
      params := s.params, lastSampleTime := none, fastestGap := s.params.fastestGapInit, transactionCount := 0,
      clockCount := 0, continuousMode := s.params.contModeInit, commandByte := none, quadSwitchPoint := none,
      mosiShift := 0x00#8, misoShift := 0x00#8, quadShift := 0x00#8, mosiBytes := [], misoBytes := [],
      txnOpen := false, transactionStartTime := 0, emptyResultWarned := false, verbosity := verbosityOf cfg,
      recOut := none, anomaly := false, input := rest, freeIndex := s.freeIndex + 1 } ∧
    verbosityOf 0 = .everything ∧ verbosityOf 1 = .onlyData ∧ verbosityOf 2 = .onlyErrors ∧
    verbosityOf 3 = .onlyControl

/-- R233: an edge with `rst` = 0 and `s_valid` = 0 changes no state, and both strobes are 0 after it. -/
def Obligations.EdgeWithoutSampleHoldsTheState : Prop :=
  ∀ (s : State) (v : SampleWord) (ts : Nat) (cfg : BitVec 2) (rest : List Edge),
    s.input = ⟨false, false, v, ts, cfg⟩ :: rest →
    step s = .next { s with recOut := none, anomaly := false, input := rest, freeIndex := s.freeIndex + 1 }

/-- R272, R278, R25: outside a reset edge neither the parameters, nor `verbosity`, nor `continuous_mode` change, and
`cfg_verbosity` is not read. -/
def Obligations.ConfigurationIsFixedBetweenResets : Prop :=
  ∀ (s : State) (e : Edge) (rest : List Edge) (cfg : BitVec 2), s.input = e :: rest → e.rst = false →
    step { s with input := { e with cfgVerbosity := cfg } :: rest } = step s ∧
    ∃ t, step s = .next t ∧ t.params = s.params ∧ t.verbosity = s.verbosity ∧ t.continuousMode = s.continuousMode

/-- R22, R21, R41 (b): outside a reset edge the threshold never increases, and a recorded sample time is never lost. -/
def Obligations.ThresholdNeverIncreases : Prop :=
  ∀ (s t : State), takesReset s = false → step s = .next t →
    t.fastestGap ≤ s.fastestGap ∧ (s.lastSampleTime.isSome = true → t.lastSampleTime.isSome = true)

/-! ## Invariants and runs -/

/-- The reset state meets the invariant. -/
def Obligations.ResetMeetsTheInvariant : Prop := State.reset.Inv

/-- R41 (a), (d), (e), R165, R167, R245 (which the spec derives): every edge keeps the invariant, reset edges included.
That the parameters are admissible (R6) and that time is cut to `TS_W` bits (log entry 6) are part of it. -/
def Obligations.EveryEdgeKeepsTheInvariant : Prop :=
  ∀ (s t : State), s.Inv → step s = .next t → t.Inv

/-- R166 and R229, which the spec derives from R162, R227 and R228: between two resets `anomaly` pulses at most once,
and not at all once it has been reported; each pulse comes while no transaction is open. -/
def Obligations.AnomalyPulsesAtMostOnce : Prop :=
  ∀ (n : Nat) (s : State), (∀ st ∈ steps n s, takesReset st.1 = false) →
    (steps n s).countP (fun st => st.2.anomaly) ≤ (if s.emptyResultWarned then 0 else 1) ∧
    ∀ st ∈ steps n s, st.2.anomaly = true → st.2.txnOpen = false ∧ st.2.emptyResultWarned = true

/-- R230, which the spec derives from R227, R228 and R104: over any number of edges the records output are at most as
many as the Deassert markers. -/
def Obligations.RecordsAreAtMostTheDeasserts : Prop :=
  ∀ (n : Nat) (s : State), (recordsOut n s).length ≤ (steps n s).countP (fun st => takesDeassert st.1)

/-- R52, which the spec derives from R51 and R181: keeping only entries 0 to 2 and a saturating length gives the same
outputs, and the same state but for the dropped entries, over any number of edges. -/
def Obligations.BoundedBufferIsEnough : Prop :=
  ∀ (n : Nat) (s t : State), Sys2Proof.core.run n s = .next t →
    ∃ u : State, Sys2Proof.core.run n s.bounded = .next u ∧ u.bounded = t.bounded ∧
      recordsOut n s.bounded = recordsOut n s

/-! ## Output signals -/

/-- R194, R83, R84, R86: the output bundle of a record. -/
def Obligations.RecordWiresTable : Prop :=
  ∀ (sp : Span) (a v : Byte),
    recordWires ⟨sp, .readRegister a (some v)⟩ = ⟨true, 0, sp.startTime, sp.endTime, a, v, true, 0⟩ ∧
    recordWires ⟨sp, .readRegister a none⟩ = ⟨true, 0, sp.startTime, sp.endTime, a, 0x00#8, false, 0⟩ ∧
    recordWires ⟨sp, .writeRegister a v⟩ = ⟨true, 1, sp.startTime, sp.endTime, a, v, true, 0⟩ ∧
    recordWires ⟨sp, .setOffset .x v⟩ = ⟨true, 2, sp.startTime, sp.endTime, 0x00#8, v, true, 0⟩ ∧
    recordWires ⟨sp, .setOffset .y v⟩ = ⟨true, 2, sp.startTime, sp.endTime, 0x00#8, v, true, 1⟩ ∧
    recordWires ⟨sp, .setOffset .z v⟩ = ⟨true, 2, sp.startTime, sp.endTime, 0x00#8, v, true, 2⟩ ∧
    recordWires ⟨sp, .readFifo v⟩ = ⟨true, 3, sp.startTime, sp.endTime, 0x00#8, v, true, 0⟩ ∧
    recordWires ⟨sp, .readDeviceId v⟩ = ⟨true, 4, sp.startTime, sp.endTime, 0x00#8, v, true, 0⟩ ∧
    recordWires ⟨sp, .error⟩ = ⟨true, 5, sp.startTime, sp.endTime, 0x00#8, 0x00#8, false, 0⟩

/-- R87, R88: `r_valid` is 1 exactly after an edge that output a record, whatever the free wires carry; `st_warned` is
`empty_result_warned`. -/
def Obligations.OutputStrobes : Prop :=
  ∀ (s : State),
    ((outputWires s).rValid = true ↔ s.recOut.isSome = true) ∧
    (∀ r, s.recOut = some r → outputWires s = recordWires r) ∧
    stWarned s = s.emptyResultWarned ∧ anomalyWire s = s.anomaly
end

