-- ==== Sys2Proof/Laws/State.lean ====
section
/-!
SUPPORT. One lemma per field per named update of Machine/Ops.lean, each true by rfl: what the update writes, and that it
leaves every other field as it was.
-/
namespace Sys2Proof.Machine

section takeEdge
variable (s : State) (rest : List Edge)

/-! The next edge is taken (R89). -/

@[simp] theorem State.takeEdge_params : (s.takeEdge rest).params = s.params := rfl
@[simp] theorem State.takeEdge_lastSampleTime : (s.takeEdge rest).lastSampleTime = s.lastSampleTime := rfl
@[simp] theorem State.takeEdge_fastestGap : (s.takeEdge rest).fastestGap = s.fastestGap := rfl
@[simp] theorem State.takeEdge_transactionCount : (s.takeEdge rest).transactionCount = s.transactionCount := rfl
@[simp] theorem State.takeEdge_clockCount : (s.takeEdge rest).clockCount = s.clockCount := rfl
@[simp] theorem State.takeEdge_continuousMode : (s.takeEdge rest).continuousMode = s.continuousMode := rfl
@[simp] theorem State.takeEdge_commandByte : (s.takeEdge rest).commandByte = s.commandByte := rfl
@[simp] theorem State.takeEdge_quadSwitchPoint : (s.takeEdge rest).quadSwitchPoint = s.quadSwitchPoint := rfl
@[simp] theorem State.takeEdge_mosiShift : (s.takeEdge rest).mosiShift = s.mosiShift := rfl
@[simp] theorem State.takeEdge_misoShift : (s.takeEdge rest).misoShift = s.misoShift := rfl
@[simp] theorem State.takeEdge_quadShift : (s.takeEdge rest).quadShift = s.quadShift := rfl
@[simp] theorem State.takeEdge_mosiBytes : (s.takeEdge rest).mosiBytes = s.mosiBytes := rfl
@[simp] theorem State.takeEdge_misoBytes : (s.takeEdge rest).misoBytes = s.misoBytes := rfl
@[simp] theorem State.takeEdge_txnOpen : (s.takeEdge rest).txnOpen = s.txnOpen := rfl
@[simp] theorem State.takeEdge_transactionStartTime :
    (s.takeEdge rest).transactionStartTime =
      s.transactionStartTime := rfl
@[simp] theorem State.takeEdge_emptyResultWarned : (s.takeEdge rest).emptyResultWarned = s.emptyResultWarned := rfl
@[simp] theorem State.takeEdge_verbosity : (s.takeEdge rest).verbosity = s.verbosity := rfl
@[simp] theorem State.takeEdge_recOut : (s.takeEdge rest).recOut = s.recOut := rfl
@[simp] theorem State.takeEdge_anomaly : (s.takeEdge rest).anomaly = s.anomaly := rfl
@[simp] theorem State.takeEdge_input : (s.takeEdge rest).input = rest := rfl
@[simp] theorem State.takeEdge_freeIndex : (s.takeEdge rest).freeIndex = s.freeIndex + 1 := rfl

end takeEdge

section clearOutputs
variable (s : State)

/-! Both output strobes are cleared (R227, R233). -/

@[simp] theorem State.clearOutputs_params : (s.clearOutputs).params = s.params := rfl
@[simp] theorem State.clearOutputs_lastSampleTime : (s.clearOutputs).lastSampleTime = s.lastSampleTime := rfl
@[simp] theorem State.clearOutputs_fastestGap : (s.clearOutputs).fastestGap = s.fastestGap := rfl
@[simp] theorem State.clearOutputs_transactionCount : (s.clearOutputs).transactionCount = s.transactionCount := rfl
@[simp] theorem State.clearOutputs_clockCount : (s.clearOutputs).clockCount = s.clockCount := rfl
@[simp] theorem State.clearOutputs_continuousMode : (s.clearOutputs).continuousMode = s.continuousMode := rfl
@[simp] theorem State.clearOutputs_commandByte : (s.clearOutputs).commandByte = s.commandByte := rfl
@[simp] theorem State.clearOutputs_quadSwitchPoint : (s.clearOutputs).quadSwitchPoint = s.quadSwitchPoint := rfl
@[simp] theorem State.clearOutputs_mosiShift : (s.clearOutputs).mosiShift = s.mosiShift := rfl
@[simp] theorem State.clearOutputs_misoShift : (s.clearOutputs).misoShift = s.misoShift := rfl
@[simp] theorem State.clearOutputs_quadShift : (s.clearOutputs).quadShift = s.quadShift := rfl
@[simp] theorem State.clearOutputs_mosiBytes : (s.clearOutputs).mosiBytes = s.mosiBytes := rfl
@[simp] theorem State.clearOutputs_misoBytes : (s.clearOutputs).misoBytes = s.misoBytes := rfl
@[simp] theorem State.clearOutputs_txnOpen : (s.clearOutputs).txnOpen = s.txnOpen := rfl
@[simp] theorem State.clearOutputs_transactionStartTime :
    (s.clearOutputs).transactionStartTime =
      s.transactionStartTime := rfl
@[simp] theorem State.clearOutputs_emptyResultWarned : (s.clearOutputs).emptyResultWarned = s.emptyResultWarned := rfl
@[simp] theorem State.clearOutputs_verbosity : (s.clearOutputs).verbosity = s.verbosity := rfl
@[simp] theorem State.clearOutputs_recOut : (s.clearOutputs).recOut = none := rfl
@[simp] theorem State.clearOutputs_anomaly : (s.clearOutputs).anomaly = false := rfl
@[simp] theorem State.clearOutputs_input : (s.clearOutputs).input = s.input := rfl
@[simp] theorem State.clearOutputs_freeIndex : (s.clearOutputs).freeIndex = s.freeIndex := rfl

end clearOutputs

section loadReset
variable (s : State) (cfg : BitVec 2)

/-! A reset edge (R270). -/

@[simp] theorem State.loadReset_params : (s.loadReset cfg).params = s.params := rfl
@[simp] theorem State.loadReset_lastSampleTime : (s.loadReset cfg).lastSampleTime = none := rfl
@[simp] theorem State.loadReset_fastestGap : (s.loadReset cfg).fastestGap = s.params.fastestGapInit := rfl
@[simp] theorem State.loadReset_transactionCount : (s.loadReset cfg).transactionCount = 0 := rfl
@[simp] theorem State.loadReset_clockCount : (s.loadReset cfg).clockCount = 0 := rfl
@[simp] theorem State.loadReset_continuousMode : (s.loadReset cfg).continuousMode = s.params.contModeInit := rfl
@[simp] theorem State.loadReset_commandByte : (s.loadReset cfg).commandByte = none := rfl
@[simp] theorem State.loadReset_quadSwitchPoint : (s.loadReset cfg).quadSwitchPoint = none := rfl
@[simp] theorem State.loadReset_mosiShift : (s.loadReset cfg).mosiShift = 0x00#8 := rfl
@[simp] theorem State.loadReset_misoShift : (s.loadReset cfg).misoShift = 0x00#8 := rfl
@[simp] theorem State.loadReset_quadShift : (s.loadReset cfg).quadShift = 0x00#8 := rfl
@[simp] theorem State.loadReset_mosiBytes : (s.loadReset cfg).mosiBytes = [] := rfl
@[simp] theorem State.loadReset_misoBytes : (s.loadReset cfg).misoBytes = [] := rfl
@[simp] theorem State.loadReset_txnOpen : (s.loadReset cfg).txnOpen = false := rfl
@[simp] theorem State.loadReset_transactionStartTime : (s.loadReset cfg).transactionStartTime = 0 := rfl
@[simp] theorem State.loadReset_emptyResultWarned : (s.loadReset cfg).emptyResultWarned = false := rfl
@[simp] theorem State.loadReset_verbosity : (s.loadReset cfg).verbosity = verbosityOf cfg := rfl
@[simp] theorem State.loadReset_recOut : (s.loadReset cfg).recOut = none := rfl
@[simp] theorem State.loadReset_anomaly : (s.loadReset cfg).anomaly = false := rfl
@[simp] theorem State.loadReset_input : (s.loadReset cfg).input = s.input := rfl
@[simp] theorem State.loadReset_freeIndex : (s.loadReset cfg).freeIndex = s.freeIndex := rfl

end loadReset

section updateThreshold
variable (s : State) (ts : Nat)

/-! THRESH (R102). -/

@[simp] theorem State.updateThreshold_params : (s.updateThreshold ts).params = s.params := rfl
@[simp] theorem State.updateThreshold_lastSampleTime : (s.updateThreshold ts).lastSampleTime = s.lastSampleTime := rfl
@[simp] theorem State.updateThreshold_fastestGap : (s.updateThreshold ts).fastestGap = thresholdOf ts s := rfl
@[simp] theorem State.updateThreshold_transactionCount :
    (s.updateThreshold ts).transactionCount =
      s.transactionCount := rfl
@[simp] theorem State.updateThreshold_clockCount : (s.updateThreshold ts).clockCount = s.clockCount := rfl
@[simp] theorem State.updateThreshold_continuousMode : (s.updateThreshold ts).continuousMode = s.continuousMode := rfl
@[simp] theorem State.updateThreshold_commandByte : (s.updateThreshold ts).commandByte = s.commandByte := rfl
@[simp] theorem State.updateThreshold_quadSwitchPoint :
    (s.updateThreshold ts).quadSwitchPoint =
      s.quadSwitchPoint := rfl
@[simp] theorem State.updateThreshold_mosiShift : (s.updateThreshold ts).mosiShift = s.mosiShift := rfl
@[simp] theorem State.updateThreshold_misoShift : (s.updateThreshold ts).misoShift = s.misoShift := rfl
@[simp] theorem State.updateThreshold_quadShift : (s.updateThreshold ts).quadShift = s.quadShift := rfl
@[simp] theorem State.updateThreshold_mosiBytes : (s.updateThreshold ts).mosiBytes = s.mosiBytes := rfl
@[simp] theorem State.updateThreshold_misoBytes : (s.updateThreshold ts).misoBytes = s.misoBytes := rfl
@[simp] theorem State.updateThreshold_txnOpen : (s.updateThreshold ts).txnOpen = s.txnOpen := rfl
@[simp] theorem State.updateThreshold_transactionStartTime :
    (s.updateThreshold ts).transactionStartTime =
      s.transactionStartTime := rfl
@[simp] theorem State.updateThreshold_emptyResultWarned :
    (s.updateThreshold ts).emptyResultWarned =
      s.emptyResultWarned := rfl
@[simp] theorem State.updateThreshold_verbosity : (s.updateThreshold ts).verbosity = s.verbosity := rfl
@[simp] theorem State.updateThreshold_recOut : (s.updateThreshold ts).recOut = s.recOut := rfl
@[simp] theorem State.updateThreshold_anomaly : (s.updateThreshold ts).anomaly = s.anomaly := rfl
@[simp] theorem State.updateThreshold_input : (s.updateThreshold ts).input = s.input := rfl
@[simp] theorem State.updateThreshold_freeIndex : (s.updateThreshold ts).freeIndex = s.freeIndex := rfl

end updateThreshold

section setLastSample
variable (s : State) (ts : Nat)

/-! LASTTIME (R107). -/

@[simp] theorem State.setLastSample_params : (s.setLastSample ts).params = s.params := rfl
@[simp] theorem State.setLastSample_lastSampleTime : (s.setLastSample ts).lastSampleTime = some ts := rfl
@[simp] theorem State.setLastSample_fastestGap : (s.setLastSample ts).fastestGap = s.fastestGap := rfl
@[simp] theorem State.setLastSample_transactionCount :
    (s.setLastSample ts).transactionCount =
      s.transactionCount := rfl
@[simp] theorem State.setLastSample_clockCount : (s.setLastSample ts).clockCount = s.clockCount := rfl
@[simp] theorem State.setLastSample_continuousMode : (s.setLastSample ts).continuousMode = s.continuousMode := rfl
@[simp] theorem State.setLastSample_commandByte : (s.setLastSample ts).commandByte = s.commandByte := rfl
@[simp] theorem State.setLastSample_quadSwitchPoint : (s.setLastSample ts).quadSwitchPoint = s.quadSwitchPoint := rfl
@[simp] theorem State.setLastSample_mosiShift : (s.setLastSample ts).mosiShift = s.mosiShift := rfl
@[simp] theorem State.setLastSample_misoShift : (s.setLastSample ts).misoShift = s.misoShift := rfl
@[simp] theorem State.setLastSample_quadShift : (s.setLastSample ts).quadShift = s.quadShift := rfl
@[simp] theorem State.setLastSample_mosiBytes : (s.setLastSample ts).mosiBytes = s.mosiBytes := rfl
@[simp] theorem State.setLastSample_misoBytes : (s.setLastSample ts).misoBytes = s.misoBytes := rfl
@[simp] theorem State.setLastSample_txnOpen : (s.setLastSample ts).txnOpen = s.txnOpen := rfl
@[simp] theorem State.setLastSample_transactionStartTime :
    (s.setLastSample ts).transactionStartTime =
      s.transactionStartTime := rfl
@[simp] theorem State.setLastSample_emptyResultWarned :
    (s.setLastSample ts).emptyResultWarned =
      s.emptyResultWarned := rfl
@[simp] theorem State.setLastSample_verbosity : (s.setLastSample ts).verbosity = s.verbosity := rfl
@[simp] theorem State.setLastSample_recOut : (s.setLastSample ts).recOut = s.recOut := rfl
@[simp] theorem State.setLastSample_anomaly : (s.setLastSample ts).anomaly = s.anomaly := rfl
@[simp] theorem State.setLastSample_input : (s.setLastSample ts).input = s.input := rfl
@[simp] theorem State.setLastSample_freeIndex : (s.setLastSample ts).freeIndex = s.freeIndex := rfl

end setLastSample

section countBoundary
variable (s : State)

/-! The saturating count (R105). -/

@[simp] theorem State.countBoundary_params : (s.countBoundary).params = s.params := rfl
@[simp] theorem State.countBoundary_lastSampleTime : (s.countBoundary).lastSampleTime = s.lastSampleTime := rfl
@[simp] theorem State.countBoundary_fastestGap : (s.countBoundary).fastestGap = s.fastestGap := rfl
@[simp] theorem State.countBoundary_transactionCount :
    (s.countBoundary).transactionCount =
      if s.transactionCount < maxOf s.params.tcW then s.transactionCount + 1 else s.transactionCount := rfl
@[simp] theorem State.countBoundary_clockCount : (s.countBoundary).clockCount = s.clockCount := rfl
@[simp] theorem State.countBoundary_continuousMode : (s.countBoundary).continuousMode = s.continuousMode := rfl
@[simp] theorem State.countBoundary_commandByte : (s.countBoundary).commandByte = s.commandByte := rfl
@[simp] theorem State.countBoundary_quadSwitchPoint : (s.countBoundary).quadSwitchPoint = s.quadSwitchPoint := rfl
@[simp] theorem State.countBoundary_mosiShift : (s.countBoundary).mosiShift = s.mosiShift := rfl
@[simp] theorem State.countBoundary_misoShift : (s.countBoundary).misoShift = s.misoShift := rfl
@[simp] theorem State.countBoundary_quadShift : (s.countBoundary).quadShift = s.quadShift := rfl
@[simp] theorem State.countBoundary_mosiBytes : (s.countBoundary).mosiBytes = s.mosiBytes := rfl
@[simp] theorem State.countBoundary_misoBytes : (s.countBoundary).misoBytes = s.misoBytes := rfl
@[simp] theorem State.countBoundary_txnOpen : (s.countBoundary).txnOpen = s.txnOpen := rfl
@[simp] theorem State.countBoundary_transactionStartTime :
    (s.countBoundary).transactionStartTime =
      s.transactionStartTime := rfl
@[simp] theorem State.countBoundary_emptyResultWarned :
    (s.countBoundary).emptyResultWarned =
      s.emptyResultWarned := rfl
@[simp] theorem State.countBoundary_verbosity : (s.countBoundary).verbosity = s.verbosity := rfl
@[simp] theorem State.countBoundary_recOut : (s.countBoundary).recOut = s.recOut := rfl
@[simp] theorem State.countBoundary_anomaly : (s.countBoundary).anomaly = s.anomaly := rfl
@[simp] theorem State.countBoundary_input : (s.countBoundary).input = s.input := rfl
@[simp] theorem State.countBoundary_freeIndex : (s.countBoundary).freeIndex = s.freeIndex := rfl

end countBoundary

section restartFrame
variable (s : State)

/-! RESTART (R106). -/

@[simp] theorem State.restartFrame_params : (s.restartFrame).params = s.params := rfl
@[simp] theorem State.restartFrame_lastSampleTime : (s.restartFrame).lastSampleTime = s.lastSampleTime := rfl
@[simp] theorem State.restartFrame_fastestGap : (s.restartFrame).fastestGap = s.fastestGap := rfl
@[simp] theorem State.restartFrame_transactionCount : (s.restartFrame).transactionCount = s.transactionCount := rfl
@[simp] theorem State.restartFrame_clockCount : (s.restartFrame).clockCount = 0 := rfl
@[simp] theorem State.restartFrame_continuousMode : (s.restartFrame).continuousMode = s.continuousMode := rfl
@[simp] theorem State.restartFrame_commandByte : (s.restartFrame).commandByte = none := rfl
@[simp] theorem State.restartFrame_quadSwitchPoint : (s.restartFrame).quadSwitchPoint = none := rfl
@[simp] theorem State.restartFrame_mosiShift : (s.restartFrame).mosiShift = 0x00#8 := rfl
@[simp] theorem State.restartFrame_misoShift : (s.restartFrame).misoShift = 0x00#8 := rfl
@[simp] theorem State.restartFrame_quadShift : (s.restartFrame).quadShift = 0x00#8 := rfl
@[simp] theorem State.restartFrame_mosiBytes : (s.restartFrame).mosiBytes = s.mosiBytes := rfl
@[simp] theorem State.restartFrame_misoBytes : (s.restartFrame).misoBytes = s.misoBytes := rfl
@[simp] theorem State.restartFrame_txnOpen : (s.restartFrame).txnOpen = s.txnOpen := rfl
@[simp] theorem State.restartFrame_transactionStartTime :
    (s.restartFrame).transactionStartTime =
      s.transactionStartTime := rfl
@[simp] theorem State.restartFrame_emptyResultWarned : (s.restartFrame).emptyResultWarned = s.emptyResultWarned := rfl
@[simp] theorem State.restartFrame_verbosity : (s.restartFrame).verbosity = s.verbosity := rfl
@[simp] theorem State.restartFrame_recOut : (s.restartFrame).recOut = s.recOut := rfl
@[simp] theorem State.restartFrame_anomaly : (s.restartFrame).anomaly = s.anomaly := rfl
@[simp] theorem State.restartFrame_input : (s.restartFrame).input = s.input := rfl
@[simp] theorem State.restartFrame_freeIndex : (s.restartFrame).freeIndex = s.freeIndex := rfl

end restartFrame

section setClock
variable (s : State) (c : Nat)

/-! A write of clock_count (R109, R141). -/

@[simp] theorem State.setClock_params : (s.setClock c).params = s.params := rfl
@[simp] theorem State.setClock_lastSampleTime : (s.setClock c).lastSampleTime = s.lastSampleTime := rfl
@[simp] theorem State.setClock_fastestGap : (s.setClock c).fastestGap = s.fastestGap := rfl
@[simp] theorem State.setClock_transactionCount : (s.setClock c).transactionCount = s.transactionCount := rfl
@[simp] theorem State.setClock_clockCount : (s.setClock c).clockCount = c := rfl
@[simp] theorem State.setClock_continuousMode : (s.setClock c).continuousMode = s.continuousMode := rfl
@[simp] theorem State.setClock_commandByte : (s.setClock c).commandByte = s.commandByte := rfl
@[simp] theorem State.setClock_quadSwitchPoint : (s.setClock c).quadSwitchPoint = s.quadSwitchPoint := rfl
@[simp] theorem State.setClock_mosiShift : (s.setClock c).mosiShift = s.mosiShift := rfl
@[simp] theorem State.setClock_misoShift : (s.setClock c).misoShift = s.misoShift := rfl
@[simp] theorem State.setClock_quadShift : (s.setClock c).quadShift = s.quadShift := rfl
@[simp] theorem State.setClock_mosiBytes : (s.setClock c).mosiBytes = s.mosiBytes := rfl
@[simp] theorem State.setClock_misoBytes : (s.setClock c).misoBytes = s.misoBytes := rfl
@[simp] theorem State.setClock_txnOpen : (s.setClock c).txnOpen = s.txnOpen := rfl
@[simp] theorem State.setClock_transactionStartTime :
    (s.setClock c).transactionStartTime =
      s.transactionStartTime := rfl
@[simp] theorem State.setClock_emptyResultWarned : (s.setClock c).emptyResultWarned = s.emptyResultWarned := rfl
@[simp] theorem State.setClock_verbosity : (s.setClock c).verbosity = s.verbosity := rfl
@[simp] theorem State.setClock_recOut : (s.setClock c).recOut = s.recOut := rfl
@[simp] theorem State.setClock_anomaly : (s.setClock c).anomaly = s.anomaly := rfl
@[simp] theorem State.setClock_input : (s.setClock c).input = s.input := rfl
@[simp] theorem State.setClock_freeIndex : (s.setClock c).freeIndex = s.freeIndex := rfl

end setClock

section captureCommand
variable (s : State) (b : Byte)

/-! CMDCAP and QTRIG (R134, R135). -/

@[simp] theorem State.captureCommand_params : (s.captureCommand b).params = s.params := rfl
@[simp] theorem State.captureCommand_lastSampleTime : (s.captureCommand b).lastSampleTime = s.lastSampleTime := rfl
@[simp] theorem State.captureCommand_fastestGap : (s.captureCommand b).fastestGap = s.fastestGap := rfl
@[simp] theorem State.captureCommand_transactionCount :
    (s.captureCommand b).transactionCount =
      s.transactionCount := rfl
@[simp] theorem State.captureCommand_clockCount : (s.captureCommand b).clockCount = s.clockCount := rfl
@[simp] theorem State.captureCommand_continuousMode : (s.captureCommand b).continuousMode = s.continuousMode := rfl
@[simp] theorem State.captureCommand_commandByte : (s.captureCommand b).commandByte = some b := rfl
@[simp] theorem State.captureCommand_quadSwitchPoint :
    (s.captureCommand b).quadSwitchPoint =
      (match quadPoint s.params b with | none => s.quadSwitchPoint | some p => some p) := rfl
@[simp] theorem State.captureCommand_mosiShift : (s.captureCommand b).mosiShift = s.mosiShift := rfl
@[simp] theorem State.captureCommand_misoShift : (s.captureCommand b).misoShift = s.misoShift := rfl
@[simp] theorem State.captureCommand_quadShift : (s.captureCommand b).quadShift = s.quadShift := rfl
@[simp] theorem State.captureCommand_mosiBytes : (s.captureCommand b).mosiBytes = s.mosiBytes := rfl
@[simp] theorem State.captureCommand_misoBytes : (s.captureCommand b).misoBytes = s.misoBytes := rfl
@[simp] theorem State.captureCommand_txnOpen : (s.captureCommand b).txnOpen = s.txnOpen := rfl
@[simp] theorem State.captureCommand_transactionStartTime :
    (s.captureCommand b).transactionStartTime =
      s.transactionStartTime := rfl
@[simp] theorem State.captureCommand_emptyResultWarned :
    (s.captureCommand b).emptyResultWarned =
      s.emptyResultWarned := rfl
@[simp] theorem State.captureCommand_verbosity : (s.captureCommand b).verbosity = s.verbosity := rfl
@[simp] theorem State.captureCommand_recOut : (s.captureCommand b).recOut = s.recOut := rfl
@[simp] theorem State.captureCommand_anomaly : (s.captureCommand b).anomaly = s.anomaly := rfl
@[simp] theorem State.captureCommand_input : (s.captureCommand b).input = s.input := rfl
@[simp] theorem State.captureCommand_freeIndex : (s.captureCommand b).freeIndex = s.freeIndex := rfl

end captureCommand

section setShifts
variable (s : State) (m r : Byte)

/-! A write of the single-wire accumulators (R131, R133). -/

@[simp] theorem State.setShifts_params : (s.setShifts m r).params = s.params := rfl
@[simp] theorem State.setShifts_lastSampleTime : (s.setShifts m r).lastSampleTime = s.lastSampleTime := rfl
@[simp] theorem State.setShifts_fastestGap : (s.setShifts m r).fastestGap = s.fastestGap := rfl
@[simp] theorem State.setShifts_transactionCount : (s.setShifts m r).transactionCount = s.transactionCount := rfl
@[simp] theorem State.setShifts_clockCount : (s.setShifts m r).clockCount = s.clockCount := rfl
@[simp] theorem State.setShifts_continuousMode : (s.setShifts m r).continuousMode = s.continuousMode := rfl
@[simp] theorem State.setShifts_commandByte : (s.setShifts m r).commandByte = s.commandByte := rfl
@[simp] theorem State.setShifts_quadSwitchPoint : (s.setShifts m r).quadSwitchPoint = s.quadSwitchPoint := rfl
@[simp] theorem State.setShifts_mosiShift : (s.setShifts m r).mosiShift = m := rfl
@[simp] theorem State.setShifts_misoShift : (s.setShifts m r).misoShift = r := rfl
@[simp] theorem State.setShifts_quadShift : (s.setShifts m r).quadShift = s.quadShift := rfl
@[simp] theorem State.setShifts_mosiBytes : (s.setShifts m r).mosiBytes = s.mosiBytes := rfl
@[simp] theorem State.setShifts_misoBytes : (s.setShifts m r).misoBytes = s.misoBytes := rfl
@[simp] theorem State.setShifts_txnOpen : (s.setShifts m r).txnOpen = s.txnOpen := rfl
@[simp] theorem State.setShifts_transactionStartTime :
    (s.setShifts m r).transactionStartTime =
      s.transactionStartTime := rfl
@[simp] theorem State.setShifts_emptyResultWarned : (s.setShifts m r).emptyResultWarned = s.emptyResultWarned := rfl
@[simp] theorem State.setShifts_verbosity : (s.setShifts m r).verbosity = s.verbosity := rfl
@[simp] theorem State.setShifts_recOut : (s.setShifts m r).recOut = s.recOut := rfl
@[simp] theorem State.setShifts_anomaly : (s.setShifts m r).anomaly = s.anomaly := rfl
@[simp] theorem State.setShifts_input : (s.setShifts m r).input = s.input := rfl
@[simp] theorem State.setShifts_freeIndex : (s.setShifts m r).freeIndex = s.freeIndex := rfl

end setShifts

section setQuadShift
variable (s : State) (q : Byte)

/-! A write of the quad-wire accumulator (R136, R137). -/

@[simp] theorem State.setQuadShift_params : (s.setQuadShift q).params = s.params := rfl
@[simp] theorem State.setQuadShift_lastSampleTime : (s.setQuadShift q).lastSampleTime = s.lastSampleTime := rfl
@[simp] theorem State.setQuadShift_fastestGap : (s.setQuadShift q).fastestGap = s.fastestGap := rfl
@[simp] theorem State.setQuadShift_transactionCount : (s.setQuadShift q).transactionCount = s.transactionCount := rfl
@[simp] theorem State.setQuadShift_clockCount : (s.setQuadShift q).clockCount = s.clockCount := rfl
@[simp] theorem State.setQuadShift_continuousMode : (s.setQuadShift q).continuousMode = s.continuousMode := rfl
@[simp] theorem State.setQuadShift_commandByte : (s.setQuadShift q).commandByte = s.commandByte := rfl
@[simp] theorem State.setQuadShift_quadSwitchPoint : (s.setQuadShift q).quadSwitchPoint = s.quadSwitchPoint := rfl
@[simp] theorem State.setQuadShift_mosiShift : (s.setQuadShift q).mosiShift = s.mosiShift := rfl
@[simp] theorem State.setQuadShift_misoShift : (s.setQuadShift q).misoShift = s.misoShift := rfl
@[simp] theorem State.setQuadShift_quadShift : (s.setQuadShift q).quadShift = q := rfl
@[simp] theorem State.setQuadShift_mosiBytes : (s.setQuadShift q).mosiBytes = s.mosiBytes := rfl
@[simp] theorem State.setQuadShift_misoBytes : (s.setQuadShift q).misoBytes = s.misoBytes := rfl
@[simp] theorem State.setQuadShift_txnOpen : (s.setQuadShift q).txnOpen = s.txnOpen := rfl
@[simp] theorem State.setQuadShift_transactionStartTime :
    (s.setQuadShift q).transactionStartTime =
      s.transactionStartTime := rfl
@[simp] theorem State.setQuadShift_emptyResultWarned :
    (s.setQuadShift q).emptyResultWarned =
      s.emptyResultWarned := rfl
@[simp] theorem State.setQuadShift_verbosity : (s.setQuadShift q).verbosity = s.verbosity := rfl
@[simp] theorem State.setQuadShift_recOut : (s.setQuadShift q).recOut = s.recOut := rfl
@[simp] theorem State.setQuadShift_anomaly : (s.setQuadShift q).anomaly = s.anomaly := rfl
@[simp] theorem State.setQuadShift_input : (s.setQuadShift q).input = s.input := rfl
@[simp] theorem State.setQuadShift_freeIndex : (s.setQuadShift q).freeIndex = s.freeIndex := rfl

end setQuadShift

section openTransaction
variable (s : State) (t : Nat)

/-! ON-ASSERT (R160). -/

@[simp] theorem State.openTransaction_params : (s.openTransaction t).params = s.params := rfl
@[simp] theorem State.openTransaction_lastSampleTime : (s.openTransaction t).lastSampleTime = s.lastSampleTime := rfl
@[simp] theorem State.openTransaction_fastestGap : (s.openTransaction t).fastestGap = s.fastestGap := rfl
@[simp] theorem State.openTransaction_transactionCount :
    (s.openTransaction t).transactionCount =
      s.transactionCount := rfl
@[simp] theorem State.openTransaction_clockCount : (s.openTransaction t).clockCount = s.clockCount := rfl
@[simp] theorem State.openTransaction_continuousMode : (s.openTransaction t).continuousMode = s.continuousMode := rfl
@[simp] theorem State.openTransaction_commandByte : (s.openTransaction t).commandByte = s.commandByte := rfl
@[simp] theorem State.openTransaction_quadSwitchPoint :
    (s.openTransaction t).quadSwitchPoint =
      s.quadSwitchPoint := rfl
@[simp] theorem State.openTransaction_mosiShift : (s.openTransaction t).mosiShift = s.mosiShift := rfl
@[simp] theorem State.openTransaction_misoShift : (s.openTransaction t).misoShift = s.misoShift := rfl
@[simp] theorem State.openTransaction_quadShift : (s.openTransaction t).quadShift = s.quadShift := rfl
@[simp] theorem State.openTransaction_mosiBytes : (s.openTransaction t).mosiBytes = [] := rfl
@[simp] theorem State.openTransaction_misoBytes : (s.openTransaction t).misoBytes = [] := rfl
@[simp] theorem State.openTransaction_txnOpen : (s.openTransaction t).txnOpen = true := rfl
@[simp] theorem State.openTransaction_transactionStartTime : (s.openTransaction t).transactionStartTime = t := rfl
@[simp] theorem State.openTransaction_emptyResultWarned :
    (s.openTransaction t).emptyResultWarned =
      s.emptyResultWarned := rfl
@[simp] theorem State.openTransaction_verbosity : (s.openTransaction t).verbosity = s.verbosity := rfl
@[simp] theorem State.openTransaction_recOut : (s.openTransaction t).recOut = s.recOut := rfl
@[simp] theorem State.openTransaction_anomaly : (s.openTransaction t).anomaly = s.anomaly := rfl
@[simp] theorem State.openTransaction_input : (s.openTransaction t).input = s.input := rfl
@[simp] theorem State.openTransaction_freeIndex : (s.openTransaction t).freeIndex = s.freeIndex := rfl

end openTransaction

section appendPair
variable (s : State) (m r : Byte)

/-! ON-PAIR (R161). -/

@[simp] theorem State.appendPair_params : (s.appendPair m r).params = s.params := rfl
@[simp] theorem State.appendPair_lastSampleTime : (s.appendPair m r).lastSampleTime = s.lastSampleTime := rfl
@[simp] theorem State.appendPair_fastestGap : (s.appendPair m r).fastestGap = s.fastestGap := rfl
@[simp] theorem State.appendPair_transactionCount : (s.appendPair m r).transactionCount = s.transactionCount := rfl
@[simp] theorem State.appendPair_clockCount : (s.appendPair m r).clockCount = s.clockCount := rfl
@[simp] theorem State.appendPair_continuousMode : (s.appendPair m r).continuousMode = s.continuousMode := rfl
@[simp] theorem State.appendPair_commandByte : (s.appendPair m r).commandByte = s.commandByte := rfl
@[simp] theorem State.appendPair_quadSwitchPoint : (s.appendPair m r).quadSwitchPoint = s.quadSwitchPoint := rfl
@[simp] theorem State.appendPair_mosiShift : (s.appendPair m r).mosiShift = s.mosiShift := rfl
@[simp] theorem State.appendPair_misoShift : (s.appendPair m r).misoShift = s.misoShift := rfl
@[simp] theorem State.appendPair_quadShift : (s.appendPair m r).quadShift = s.quadShift := rfl
@[simp] theorem State.appendPair_mosiBytes : (s.appendPair m r).mosiBytes = s.mosiBytes ++ [m] := rfl
@[simp] theorem State.appendPair_misoBytes : (s.appendPair m r).misoBytes = s.misoBytes ++ [r] := rfl
@[simp] theorem State.appendPair_txnOpen : (s.appendPair m r).txnOpen = s.txnOpen := rfl
@[simp] theorem State.appendPair_transactionStartTime :
    (s.appendPair m r).transactionStartTime =
      s.transactionStartTime := rfl
@[simp] theorem State.appendPair_emptyResultWarned : (s.appendPair m r).emptyResultWarned = s.emptyResultWarned := rfl
@[simp] theorem State.appendPair_verbosity : (s.appendPair m r).verbosity = s.verbosity := rfl
@[simp] theorem State.appendPair_recOut : (s.appendPair m r).recOut = s.recOut := rfl
@[simp] theorem State.appendPair_anomaly : (s.appendPair m r).anomaly = s.anomaly := rfl
@[simp] theorem State.appendPair_input : (s.appendPair m r).input = s.input := rfl
@[simp] theorem State.appendPair_freeIndex : (s.appendPair m r).freeIndex = s.freeIndex := rfl

end appendPair

section closeTransaction
variable (s : State)

/-! The close of R163 and R164. -/

@[simp] theorem State.closeTransaction_params : (s.closeTransaction).params = s.params := rfl
@[simp] theorem State.closeTransaction_lastSampleTime : (s.closeTransaction).lastSampleTime = s.lastSampleTime := rfl
@[simp] theorem State.closeTransaction_fastestGap : (s.closeTransaction).fastestGap = s.fastestGap := rfl
@[simp] theorem State.closeTransaction_transactionCount :
    (s.closeTransaction).transactionCount =
      s.transactionCount := rfl
@[simp] theorem State.closeTransaction_clockCount : (s.closeTransaction).clockCount = s.clockCount := rfl
@[simp] theorem State.closeTransaction_continuousMode : (s.closeTransaction).continuousMode = s.continuousMode := rfl
@[simp] theorem State.closeTransaction_commandByte : (s.closeTransaction).commandByte = s.commandByte := rfl
@[simp] theorem State.closeTransaction_quadSwitchPoint :
    (s.closeTransaction).quadSwitchPoint =
      s.quadSwitchPoint := rfl
@[simp] theorem State.closeTransaction_mosiShift : (s.closeTransaction).mosiShift = s.mosiShift := rfl
@[simp] theorem State.closeTransaction_misoShift : (s.closeTransaction).misoShift = s.misoShift := rfl
@[simp] theorem State.closeTransaction_quadShift : (s.closeTransaction).quadShift = s.quadShift := rfl
@[simp] theorem State.closeTransaction_mosiBytes : (s.closeTransaction).mosiBytes = [] := rfl
@[simp] theorem State.closeTransaction_misoBytes : (s.closeTransaction).misoBytes = [] := rfl
@[simp] theorem State.closeTransaction_txnOpen : (s.closeTransaction).txnOpen = false := rfl
@[simp] theorem State.closeTransaction_transactionStartTime :
    (s.closeTransaction).transactionStartTime =
      s.transactionStartTime := rfl
@[simp] theorem State.closeTransaction_emptyResultWarned :
    (s.closeTransaction).emptyResultWarned =
      s.emptyResultWarned := rfl
@[simp] theorem State.closeTransaction_verbosity : (s.closeTransaction).verbosity = s.verbosity := rfl
@[simp] theorem State.closeTransaction_recOut : (s.closeTransaction).recOut = s.recOut := rfl
@[simp] theorem State.closeTransaction_anomaly : (s.closeTransaction).anomaly = s.anomaly := rfl
@[simp] theorem State.closeTransaction_input : (s.closeTransaction).input = s.input := rfl
@[simp] theorem State.closeTransaction_freeIndex : (s.closeTransaction).freeIndex = s.freeIndex := rfl

end closeTransaction

section raiseAnomaly
variable (s : State)

/-! The structural anomaly (R162, R242). -/

@[simp] theorem State.raiseAnomaly_params : (s.raiseAnomaly).params = s.params := rfl
@[simp] theorem State.raiseAnomaly_lastSampleTime : (s.raiseAnomaly).lastSampleTime = s.lastSampleTime := rfl
@[simp] theorem State.raiseAnomaly_fastestGap : (s.raiseAnomaly).fastestGap = s.fastestGap := rfl
@[simp] theorem State.raiseAnomaly_transactionCount : (s.raiseAnomaly).transactionCount = s.transactionCount := rfl
@[simp] theorem State.raiseAnomaly_clockCount : (s.raiseAnomaly).clockCount = s.clockCount := rfl
@[simp] theorem State.raiseAnomaly_continuousMode : (s.raiseAnomaly).continuousMode = s.continuousMode := rfl
@[simp] theorem State.raiseAnomaly_commandByte : (s.raiseAnomaly).commandByte = s.commandByte := rfl
@[simp] theorem State.raiseAnomaly_quadSwitchPoint : (s.raiseAnomaly).quadSwitchPoint = s.quadSwitchPoint := rfl
@[simp] theorem State.raiseAnomaly_mosiShift : (s.raiseAnomaly).mosiShift = s.mosiShift := rfl
@[simp] theorem State.raiseAnomaly_misoShift : (s.raiseAnomaly).misoShift = s.misoShift := rfl
@[simp] theorem State.raiseAnomaly_quadShift : (s.raiseAnomaly).quadShift = s.quadShift := rfl
@[simp] theorem State.raiseAnomaly_mosiBytes : (s.raiseAnomaly).mosiBytes = s.mosiBytes := rfl
@[simp] theorem State.raiseAnomaly_misoBytes : (s.raiseAnomaly).misoBytes = s.misoBytes := rfl
@[simp] theorem State.raiseAnomaly_txnOpen : (s.raiseAnomaly).txnOpen = s.txnOpen := rfl
@[simp] theorem State.raiseAnomaly_transactionStartTime :
    (s.raiseAnomaly).transactionStartTime =
      s.transactionStartTime := rfl
@[simp] theorem State.raiseAnomaly_emptyResultWarned : (s.raiseAnomaly).emptyResultWarned = true := rfl
@[simp] theorem State.raiseAnomaly_verbosity : (s.raiseAnomaly).verbosity = s.verbosity := rfl
@[simp] theorem State.raiseAnomaly_recOut : (s.raiseAnomaly).recOut = s.recOut := rfl
@[simp] theorem State.raiseAnomaly_anomaly :
    (s.raiseAnomaly).anomaly =
      if s.emptyResultWarned then s.anomaly else true := rfl
@[simp] theorem State.raiseAnomaly_input : (s.raiseAnomaly).input = s.input := rfl
@[simp] theorem State.raiseAnomaly_freeIndex : (s.raiseAnomaly).freeIndex = s.freeIndex := rfl

end raiseAnomaly

section putRecord
variable (s : State) (r : Record)

/-! The filtered record output (R164, R220). -/

@[simp] theorem State.putRecord_params : (s.putRecord r).params = s.params := rfl
@[simp] theorem State.putRecord_lastSampleTime : (s.putRecord r).lastSampleTime = s.lastSampleTime := rfl
@[simp] theorem State.putRecord_fastestGap : (s.putRecord r).fastestGap = s.fastestGap := rfl
@[simp] theorem State.putRecord_transactionCount : (s.putRecord r).transactionCount = s.transactionCount := rfl
@[simp] theorem State.putRecord_clockCount : (s.putRecord r).clockCount = s.clockCount := rfl
@[simp] theorem State.putRecord_continuousMode : (s.putRecord r).continuousMode = s.continuousMode := rfl
@[simp] theorem State.putRecord_commandByte : (s.putRecord r).commandByte = s.commandByte := rfl
@[simp] theorem State.putRecord_quadSwitchPoint : (s.putRecord r).quadSwitchPoint = s.quadSwitchPoint := rfl
@[simp] theorem State.putRecord_mosiShift : (s.putRecord r).mosiShift = s.mosiShift := rfl
@[simp] theorem State.putRecord_misoShift : (s.putRecord r).misoShift = s.misoShift := rfl
@[simp] theorem State.putRecord_quadShift : (s.putRecord r).quadShift = s.quadShift := rfl
@[simp] theorem State.putRecord_mosiBytes : (s.putRecord r).mosiBytes = s.mosiBytes := rfl
@[simp] theorem State.putRecord_misoBytes : (s.putRecord r).misoBytes = s.misoBytes := rfl
@[simp] theorem State.putRecord_txnOpen : (s.putRecord r).txnOpen = s.txnOpen := rfl
@[simp] theorem State.putRecord_transactionStartTime :
    (s.putRecord r).transactionStartTime =
      s.transactionStartTime := rfl
@[simp] theorem State.putRecord_emptyResultWarned : (s.putRecord r).emptyResultWarned = s.emptyResultWarned := rfl
@[simp] theorem State.putRecord_verbosity : (s.putRecord r).verbosity = s.verbosity := rfl
@[simp] theorem State.putRecord_recOut :
    (s.putRecord r).recOut =
      if passes s.params s.verbosity r.kind then some r else s.recOut := rfl
@[simp] theorem State.putRecord_anomaly : (s.putRecord r).anomaly = s.anomaly := rfl
@[simp] theorem State.putRecord_input : (s.putRecord r).input = s.input := rfl
@[simp] theorem State.putRecord_freeIndex : (s.putRecord r).freeIndex = s.freeIndex := rfl

end putRecord

end Sys2Proof.Machine
end

