-- ==== Sys2Proof/Laws/Ops.lean ====
section
/-!
SUPPORT. For each shared operation, one lemma that says once everything it can do. Proofs cite these and the field lemmas
of Laws/State.lean; they need not unfold the operations again.
-/
namespace Sys2Proof.Machine

/-! ## Tests -/

/-- R103: the boundary test, as a proposition. -/
theorem isBoundary_iff (v : SampleWord) (ts : Nat) (s : State) :
    isBoundary v ts s = true ↔ thresholdOf ts s < gapOf ts s ∧ csFlag v = false := by
  simp [isBoundary]

/-- R102: the updated threshold is at most the old one. -/
theorem thresholdOf_le (ts : Nat) (s : State) : thresholdOf ts s ≤ s.fastestGap := Nat.min_le_right _ _

/-- R100: without a previous sample there is no boundary. -/
theorem isBoundary_of_no_last {v : SampleWord} {ts : Nat} {s : State} (h : s.lastSampleTime = none) :
    isBoundary v ts s = false := by
  have hg : gapOf ts s = s.fastestGap := by simp [gapOf, h]
  have hle : s.fastestGap ≤ thresholdOf ts s := by
    simp only [thresholdOf, hg, Config.gapMult]; omega
  simp [isBoundary, hg]; omega

/-- The tests of the detector read only the time of the last sample and the threshold. -/
theorem gapOf_congr {ts : Nat} {s u : State} (hl : u.lastSampleTime = s.lastSampleTime)
    (hg : u.fastestGap = s.fastestGap) : gapOf ts u = gapOf ts s := by
  simp [gapOf, hl, hg]

theorem thresholdOf_congr {ts : Nat} {s u : State} (hl : u.lastSampleTime = s.lastSampleTime)
    (hg : u.fastestGap = s.fastestGap) : thresholdOf ts u = thresholdOf ts s := by
  simp [thresholdOf, gapOf_congr hl hg, hg]

theorem isBoundary_congr {v : SampleWord} {ts : Nat} {s u : State} (hl : u.lastSampleTime = s.lastSampleTime)
    (hg : u.fastestGap = s.fastestGap) : isBoundary v ts u = isBoundary v ts s := by
  simp [isBoundary, thresholdOf_congr hl hg, gapOf_congr hl hg]

/-! ## The assembler -/

/-- A command row writes the record output and nothing else. -/
theorem runCommand_eq (i : Instr) (s : State) : ∃ rec, runCommand i s = { s with recOut := rec } := by
  unfold runCommand
  split
  · exact ⟨_, rfl⟩
  · exact ⟨s.recOut, rfl⟩

/-- A command row whose record is `r` presents it to the filter. -/
theorem runCommand_of_record {i : Instr} {r : Record} (h : commandRecord i = some r) (s : State) :
    runCommand i s = s.putRecord r := by
  simp [runCommand, h]

theorem consume_assert (t : Nat) (s : State) : consume (.assert t) s = s.openTransaction t := rfl

theorem consume_pair_open {m r : Byte} {s : State} (h : s.txnOpen = true) :
    consume (.bytePair m r) s = s.appendPair m r := by
  simp [consume, onPair, h]

theorem consume_pair_orphan {m r : Byte} {s : State} (h : s.txnOpen = false) :
    consume (.bytePair m r) s = s.raiseAnomaly := by
  simp [consume, onPairOrphan, h]

theorem consume_deassert_empty {t : Nat} {s : State} (h : txnEmpty s = true) :
    consume (.deassert t) s = s.closeTransaction := by
  simp [consume, onDeassertEmpty, h]

theorem consume_deassert {t : Nat} {s : State} (h : txnEmpty s = false) :
    consume (.deassert t) s =
      (runCommand (decodeCommand s.mosiBytes s.misoBytes ⟨s.transactionStartTime, t⟩) s).closeTransaction := by
  simp [consume, onDeassert, h]

/-- A byte pair is appended or reported, by `txn_open` (R161, R162). -/
theorem consume_pair (m r : Byte) (s : State) :
    consume (.bytePair m r) s = if s.txnOpen then s.appendPair m r else s.raiseAnomaly := by
  by_cases h : s.txnOpen = true
  · simp [h, consume_pair_open]
  · simp only [Bool.not_eq_true] at h; simp [h, consume_pair_orphan]

/-- A Deassert closes the transaction and may write the record output (R163, R164). -/
theorem consume_deassert_eq (t : Nat) (s : State) :
    ∃ rec, consume (.deassert t) s =
      { s with txnOpen := false, mosiBytes := [], misoBytes := [], recOut := rec } := by
  by_cases h : txnEmpty s = true
  · exact ⟨s.recOut, consume_deassert_empty h⟩
  · simp only [Bool.not_eq_true] at h
    obtain ⟨rec, hr⟩ := runCommand_eq (decodeCommand s.mosiBytes s.misoBytes ⟨s.transactionStartTime, t⟩) s
    exact ⟨rec, by rw [consume_deassert h, hr]; rfl⟩

/-! ## The detector -/

/-- R104: what closing the previous transaction can do. -/
theorem closePrevious_cases (tLast : Option Nat) (s : State) :
    closePrevious tLast s = s ∨
      0 < s.transactionCount ∧ ∃ t, tLast = some t ∧ closePrevious tLast s = consume (.deassert t) s := by
  unfold closePrevious
  split
  · rename_i h
    cases tLast with
    | none => exact .inl rfl
    | some t => exact .inr ⟨h, t, rfl, rfl⟩
  · exact .inl rfl

/-- R104: the first boundary closes nothing. -/
theorem closePrevious_first {tLast : Option Nat} {s : State} (h : s.transactionCount = 0) :
    closePrevious tLast s = s := by
  simp [closePrevious, h]

/-- R104: after the first boundary the previous transaction is closed at the previous sample's time. -/
theorem closePrevious_of_count {t : Nat} {s : State} (h : 0 < s.transactionCount) :
    closePrevious (some t) s = consume (.deassert t) s := by
  simp [closePrevious, h]

/-- The start of a boundary (R104, R105): the old transaction is closed, the new one opened and counted. Only the record
output depends on the old transaction. -/
theorem openNext_closePrevious (tLast : Option Nat) (ts : Nat) (s : State) :
    openNext ts (closePrevious tLast s) =
      { (s.openTransaction ts).countBoundary with recOut := (closePrevious tLast s).recOut } := by
  rcases closePrevious_cases tLast s with h | ⟨_, t, _, h⟩
  · rw [h]; rfl
  · obtain ⟨rec, hr⟩ := consume_deassert_eq t s
    rw [h, hr]; rfl

/-- A non-continuous boundary (R104 to R106). -/
theorem crossBoundary_restart {tLast : Option Nat} {ts : Nat} {s : State} (h : s.continuousMode = false) :
    crossBoundary tLast ts s =
      { (s.openTransaction ts).countBoundary.restartFrame with recOut := (closePrevious tLast s).recOut } := by
  simp [crossBoundary, openNext_closePrevious, startFrame, h, State.restartFrame]

/-- A continuous boundary (R104, R105, R109). -/
theorem crossBoundary_resume {tLast : Option Nat} {ts : Nat} {s : State} (h : s.continuousMode = true) :
    crossBoundary tLast ts s =
      { (((s.openTransaction ts).countBoundary.setClock Config.resumeClock).appendPair
          (s.commandByte.getD 0x00#8) 0x00#8) with recOut := (closePrevious tLast s).recOut } := by
  simp [crossBoundary, openNext_closePrevious, startFrame, h, resume, consume_pair, State.setClock, State.appendPair]

/-- What a boundary leaves open: a transaction with its own start time (R160), whatever the mode. -/
theorem crossBoundary_opens (tLast : Option Nat) (ts : Nat) (s : State) :
    (crossBoundary tLast ts s).txnOpen = true ∧ (crossBoundary tLast ts s).transactionStartTime = ts ∧
      (crossBoundary tLast ts s).transactionCount = s.countBoundary.transactionCount := by
  cases h : s.continuousMode
  · rw [crossBoundary_restart h]; exact ⟨rfl, rfl, rfl⟩
  · rw [crossBoundary_resume h]; exact ⟨rfl, rfl, rfl⟩

/-- The fields that no boundary writes. -/
theorem crossBoundary_frame (tLast : Option Nat) (ts : Nat) (s : State) :
    (crossBoundary tLast ts s).params = s.params ∧ (crossBoundary tLast ts s).fastestGap = s.fastestGap ∧
      (crossBoundary tLast ts s).continuousMode = s.continuousMode ∧
      (crossBoundary tLast ts s).verbosity = s.verbosity ∧
      (crossBoundary tLast ts s).emptyResultWarned = s.emptyResultWarned ∧
      (crossBoundary tLast ts s).anomaly = s.anomaly ∧ (crossBoundary tLast ts s).input = s.input ∧
      (crossBoundary tLast ts s).freeIndex = s.freeIndex := by
  cases h : s.continuousMode
  · rw [crossBoundary_restart h]; simp [h]
  · rw [crossBoundary_resume h]; simp [h]

theorem detect_boundary {v : SampleWord} {ts : Nat} {s : State} (h : isBoundary v ts s = true) :
    detect v ts s = (crossBoundary s.lastSampleTime ts (s.updateThreshold ts)).setLastSample ts := by
  simp [detect, h]

theorem detect_no_boundary {v : SampleWord} {ts : Nat} {s : State} (h : isBoundary v ts s = false) :
    detect v ts s = (s.updateThreshold ts).setLastSample ts := by
  simp [detect, h]

/-- R102, R107: the threshold and the sample time after the detector, boundary or not. -/
theorem detect_threshold_time (v : SampleWord) (ts : Nat) (s : State) :
    (detect v ts s).fastestGap = thresholdOf ts s ∧ (detect v ts s).lastSampleTime = some ts := by
  cases h : isBoundary v ts s
  · rw [detect_no_boundary h]; exact ⟨rfl, rfl⟩
  · rw [detect_boundary h]
    exact ⟨(crossBoundary_frame s.lastSampleTime ts (s.updateThreshold ts)).2.1, rfl⟩

/-! ## The accumulator -/

/-- A completed byte (R133 to R135), for an open transaction. -/
theorem finishByte_open {s : State} (h : s.txnOpen = true) :
    finishByte s =
      (((if isCommandByte s then s.captureCommand s.mosiShift else s).appendPair s.mosiShift s.misoShift).setShifts
        0x00#8 0x00#8) := by
  have hs : (if isCommandByte s then s.captureCommand s.mosiShift else s).txnOpen = true := by
    split <;> simpa using h
  simp [finishByte, consume_pair_open hs]

/-- A completed byte (R133 to R135), for no open transaction. -/
theorem finishByte_orphan {s : State} (h : s.txnOpen = false) :
    finishByte s =
      ((if isCommandByte s then s.captureCommand s.mosiShift else s).raiseAnomaly.setShifts 0x00#8 0x00#8) := by
  have hs : (if isCommandByte s then s.captureCommand s.mosiShift else s).txnOpen = false := by
    split <;> simpa using h
  simp [finishByte, consume_pair_orphan hs]

/-- R130: in single-wire mode the clock is a single-wire one. -/
theorem accumulate_single {v : SampleWord} {s : State} (h : isSingleWire s = true) :
    accumulate v s = (clockSingle v s).setClock (trunc s.params.ccW (s.clockCount + 1)) := by
  cases hq : s.quadSwitchPoint with
  | none => simp only [accumulate, hq]
  | some p =>
    have hlt : s.clockCount < p := by simpa [isSingleWire, hq] using h
    simp only [accumulate, hq, hlt, if_true]

/-- R130: from the switch point on the clock is a quad-wire one. -/
theorem accumulate_quad {v : SampleWord} {p : Nat} {s : State} (h : s.quadSwitchPoint = some p)
    (hp : p ≤ s.clockCount) :
    accumulate v s = (clockQuad p v s).setClock (trunc s.params.ccW (s.clockCount + 1)) := by
  have : ¬ s.clockCount < p := by omega
  simp [accumulate, h, this]

/-- R130: each active sample is processed in exactly one mode. -/
theorem accumulate_cases (v : SampleWord) (s : State) :
    (isSingleWire s = true ∧
      accumulate v s = (clockSingle v s).setClock (trunc s.params.ccW (s.clockCount + 1))) ∨
    ∃ p, s.quadSwitchPoint = some p ∧ p ≤ s.clockCount ∧
      accumulate v s = (clockQuad p v s).setClock (trunc s.params.ccW (s.clockCount + 1)) := by
  cases h : isSingleWire s
  · right
    cases hq : s.quadSwitchPoint with
    | none => simp [isSingleWire, hq] at h
    | some p =>
      have hle : p ≤ s.clockCount := by simpa [isSingleWire, hq] using h
      exact ⟨p, rfl, hle, accumulate_quad hq hle⟩
  · exact .inl ⟨rfl, accumulate_single h⟩

/-- The fields that no data clock writes. -/
theorem accumulate_frame (v : SampleWord) (s : State) :
    (accumulate v s).params = s.params ∧ (accumulate v s).fastestGap = s.fastestGap ∧
      (accumulate v s).lastSampleTime = s.lastSampleTime ∧
      (accumulate v s).transactionCount = s.transactionCount ∧
      (accumulate v s).continuousMode = s.continuousMode ∧ (accumulate v s).txnOpen = s.txnOpen ∧
      (accumulate v s).transactionStartTime = s.transactionStartTime ∧
      (accumulate v s).verbosity = s.verbosity ∧ (accumulate v s).recOut = s.recOut ∧
      (accumulate v s).input = s.input ∧ (accumulate v s).freeIndex = s.freeIndex := by
  rcases accumulate_cases v s with ⟨_, h⟩ | ⟨p, _, _, h⟩ <;> rw [h]
  · simp only [clockSingle, finishByte, consume_pair]
    split <;> (try split) <;> (try split) <;> simp
  · simp only [clockQuad, consume_pair]
    split <;> (try split) <;> simp

/-! ## One accepted sample -/

/-- R108: an idle sample ends after the detector. -/
theorem acceptSample_idle {v : SampleWord} {ts : Nat} {s : State} (h : csFlag v = true) :
    acceptSample v ts s = (s.clearOutputs.updateThreshold ts).setLastSample ts := by
  have hb : isBoundary v ts s.clearOutputs = false := by simp [isBoundary, h]
  simp [acceptSample, h, detect_no_boundary hb]

/-- An active sample is the detector, then the accumulator. -/
theorem acceptSample_active {v : SampleWord} {ts : Nat} {s : State} (h : csFlag v = false) :
    acceptSample v ts s = accumulate v (detect v ts s.clearOutputs) := by
  simp [acceptSample, h]

/-- The fields that no accepted sample writes. -/
theorem acceptSample_frame (v : SampleWord) (ts : Nat) (s : State) :
    (acceptSample v ts s).params = s.params ∧ (acceptSample v ts s).continuousMode = s.continuousMode ∧
      (acceptSample v ts s).verbosity = s.verbosity ∧ (acceptSample v ts s).input = s.input ∧
      (acceptSample v ts s).freeIndex = s.freeIndex := by
  have hd : (detect v ts s.clearOutputs).params = s.params ∧
      (detect v ts s.clearOutputs).continuousMode = s.continuousMode ∧
      (detect v ts s.clearOutputs).verbosity = s.verbosity ∧ (detect v ts s.clearOutputs).input = s.input ∧
      (detect v ts s.clearOutputs).freeIndex = s.freeIndex := by
    cases h : isBoundary v ts s.clearOutputs
    · rw [detect_no_boundary h]; simp
    · have hf := crossBoundary_frame s.clearOutputs.lastSampleTime ts (s.clearOutputs.updateThreshold ts)
      rw [detect_boundary h]
      simp only [State.setLastSample_params, State.setLastSample_continuousMode, State.setLastSample_verbosity,
        State.setLastSample_input, State.setLastSample_freeIndex, hf]
      simp
  cases h : csFlag v
  · have ha := accumulate_frame v (detect v ts s.clearOutputs)
    rw [acceptSample_active h]
    simp only [ha, hd, and_self]
  · simpa [acceptSample, h] using hd

/-- R102, R107: the threshold and the sample time after an accepted sample. -/
theorem acceptSample_threshold_time (v : SampleWord) (ts : Nat) (s : State) :
    (acceptSample v ts s).fastestGap = thresholdOf ts s ∧ (acceptSample v ts s).lastSampleTime = some ts := by
  have hd := detect_threshold_time v ts s.clearOutputs
  have hc : thresholdOf ts s.clearOutputs = thresholdOf ts s := thresholdOf_congr rfl rfl
  cases h : csFlag v
  · have ha := accumulate_frame v (detect v ts s.clearOutputs)
    rw [acceptSample_active h]
    exact ⟨by rw [ha.2.1, hd.1, hc], by rw [ha.2.2.1, hd.2]⟩
  · simp only [acceptSample, h]
    exact ⟨by rw [← hc]; exact hd.1, hd.2⟩

end Sys2Proof.Machine
end

