-- ==== Sys2Proof/Laws/Step.lean ====
section
/-!
SUPPORT. What one clock edge can do, and the sample fields of a decoded word.
-/
namespace Sys2Proof

@[simp] theorem csFlag_sampleWord (cs : Bool) (data : SampleData) : csFlag (sampleWord cs data) = cs := by
  change (BitVec.ofBool cs ++ data : BitVec (1 + 15)).getLsbD 15 = cs
  rw [BitVec.getLsbD_append]
  cases cs <;> rfl

/-- Bits 14:0 of a sample word are its data. -/
theorem getLsbD_sampleWord {cs : Bool} {data : SampleData} {i : Nat} (h : i < 15) :
    (sampleWord cs data).getLsbD i = data.getLsbD i := by
  change (BitVec.ofBool cs ++ data : BitVec (1 + 15)).getLsbD i = data.getLsbD i
  rw [BitVec.getLsbD_append, if_pos h]

@[simp] theorem sampleData_sampleWord (cs : Bool) (data : SampleData) : sampleData (sampleWord cs data) = data := by
  apply BitVec.eq_of_getLsbD_eq
  intro i hi
  rw [sampleData, BitVec.getLsbD_setWidth, getLsbD_sampleWord hi]
  simp [hi]

/-- The chip-select flag and the other 15 bits are the whole word. -/
theorem sampleWord_eta (v : SampleWord) : sampleWord (csFlag v) (sampleData v) = v := by
  apply BitVec.eq_of_getLsbD_eq
  intro i hi
  by_cases h : i < 15
  · rw [getLsbD_sampleWord h, sampleData, BitVec.getLsbD_setWidth]
    simp [h]
  · obtain rfl : i = 15 := by omega
    exact csFlag_sampleWord _ _

end Sys2Proof

namespace Sys2Proof.Machine

/-- The row a sample decodes to runs the per-sample step on the sample's own word. -/
theorem exec_decodeSample (quad : Bool) (v : SampleWord) (ts : Nat) (s : State) :
    exec (decodeSample quad v ts) s = .next (acceptSample v ts s) := by
  have he := sampleWord_eta v
  cases h : csFlag v
  · rw [h] at he
    cases quad <;> simp [decodeSample, h, exec, execSmpActive1w, execSmpActive4w, he]
  · rw [h] at he
    simp [decodeSample, h, exec, execSmpIdle, he]

/-- What an edge does, by what it carries. -/
def edgeEffect (s : State) : State :=
  match s.input with
  | [] => holdEdge (s.takeEdge [])
  | e :: rest =>
    if e.rst then (s.takeEdge rest).loadReset e.cfgVerbosity
    else if e.sValid then acceptSample e.sValue (portTime e s) (s.takeEdge rest)
    else holdEdge (s.takeEdge rest)

/-- The whole of `step`: every edge answers a next state, and this is it. -/
theorem step_eq (s : State) : step s = .next (edgeEffect s) := by
  unfold step edgeEffect
  cases h : s.input with
  | nil => rfl
  | cons e rest =>
    by_cases hr : e.rst = true
    · simp [hr]
    · by_cases hv : e.sValid = true
      · simp [hr, hv, fetchSample, decode, exec_decodeSample, portTime]
      · simp [hr, hv]

theorem step_eq_iff (s t : State) : step s = .next t ↔ edgeEffect s = t := by
  rw [step_eq]
  exact ⟨fun h => by injection h, fun h => by rw [h]⟩

end Sys2Proof.Machine
end

