-- ==== Sys2Proof/Laws/Clock.lean ====
section
/-!
SUPPORT. The data clocks of the accumulator as one record update each, and the boundary test against the old threshold
gap by gap.
-/
namespace Sys2Proof.Machine

/-! ## Sample fields of a word put together from its flag and its data -/

@[simp] theorem mosiBit_sampleWord (cs : Bool) (data : SampleData) : mosiBit (sampleWord cs data) = data.getLsbD 0 :=
  getLsbD_sampleWord (by omega)

@[simp] theorem misoBit_sampleWord (cs : Bool) (data : SampleData) : misoBit (sampleWord cs data) = data.getLsbD 1 :=
  getLsbD_sampleWord (by omega)

@[simp] theorem nibbleOf_sampleWord (cs : Bool) (data : SampleData) :
    nibbleOf (sampleWord cs data) = data.extractLsb' 0 4 := by
  apply BitVec.eq_of_getLsbD_eq
  intro i hi
  rw [nibbleOf, BitVec.getLsbD_extractLsb', BitVec.getLsbD_extractLsb', getLsbD_sampleWord (by omega)]

/-! ## Shifts -/

/-- R131 with the shift written as `shift << 1 | bit`. -/
theorem shiftBit_eq (b : Byte) (x : Bool) : shiftBit b x = (b <<< 1) ||| (BitVec.ofBool x).setWidth 8 := by
  cases x <;> revert b <;> decide

/-- R136 with the shift written as `shift << 4 | nibble`. -/
theorem shiftNibble_eq (b : Byte) (n : Nibble) : shiftNibble b n = (b <<< 4) ||| n.setWidth 8 := by
  apply BitVec.eq_of_getLsbD_eq
  intro i hi
  simp only [shiftNibble, BitVec.getLsbD_setWidth, BitVec.getLsbD_append, BitVec.getLsbD_or, BitVec.getLsbD_shiftLeft]
  by_cases h : i < 4
  · simp [h, hi]
  · simp [h, hi, BitVec.getLsbD_of_ge n i (by omega)]

/-! ## Boundaries -/

theorem no_boundary_of_le {v : SampleWord} {ts : Nat} {s : State} (h : gapOf ts s ≤ s.fastestGap) :
    isBoundary v ts s = false := by
  have hn : ¬ min (4 * gapOf ts s) s.fastestGap < gapOf ts s := by omega
  simp [isBoundary, thresholdOf, Config.gapMult, hn]

theorem boundary_of_lt {v : SampleWord} {ts : Nat} {s : State} (h : s.fastestGap < gapOf ts s) (hv : csFlag v = false) :
    isBoundary v ts s = true := by
  have hn : min (4 * gapOf ts s) s.fastestGap < gapOf ts s := by omega
  simp [isBoundary, thresholdOf, Config.gapMult, hn, hv]

/-! ## Clocks -/

/-- One single-wire clock (R131, R133 to R135, R161, R162), without the clock count. -/
theorem clockSingle_eq (v : SampleWord) (s : State) :
    clockSingle v s =
      if s.clockCount % 8 = 7 then
        { s with
          commandByte := if s.clockCount = 7 then some (shiftBit s.mosiShift (mosiBit v)) else s.commandByte
          quadSwitchPoint :=
            if s.clockCount = 7 then (quadPoint s.params (shiftBit s.mosiShift (mosiBit v))).or s.quadSwitchPoint
            else s.quadSwitchPoint
          mosiBytes := if s.txnOpen then s.mosiBytes ++ [shiftBit s.mosiShift (mosiBit v)] else s.mosiBytes
          misoBytes := if s.txnOpen then s.misoBytes ++ [shiftBit s.misoShift (misoBit v)] else s.misoBytes
          mosiShift := 0x00#8
          misoShift := 0x00#8
          emptyResultWarned := s.emptyResultWarned || !s.txnOpen
          anomaly := s.anomaly || (!s.txnOpen && !s.emptyResultWarned) }
      else
        { s with
          mosiShift := shiftBit s.mosiShift (mosiBit v)
          misoShift := shiftBit s.misoShift (misoBit v) } := by
  by_cases h : s.clockCount % 8 = 7
  · simp only [clockSingle, byteDone, h, decide_true, if_true]
    cases ho : s.txnOpen
    · rw [finishByte_orphan (by simpa using ho)]
      by_cases h7 : s.clockCount = 7
      · simp only [isCommandByte, State.setShifts, h7, decide_true, if_true, State.captureCommand, State.raiseAnomaly]
        cases hq : quadPoint s.params (shiftBit s.mosiShift (mosiBit v)) <;> cases hw : s.emptyResultWarned <;>
          simp_all
      · simp only [isCommandByte, State.setShifts, h7, decide_false, State.raiseAnomaly]
        cases hw : s.emptyResultWarned <;> simp_all
    · rw [finishByte_open (by simpa using ho)]
      by_cases h7 : s.clockCount = 7
      · simp only [isCommandByte, State.setShifts, h7, decide_true, if_true, State.captureCommand, State.appendPair]
        cases hq : quadPoint s.params (shiftBit s.mosiShift (mosiBit v)) <;> simp_all
      · simp only [isCommandByte, State.setShifts, h7, decide_false, State.appendPair]
        simp_all
  · simp [clockSingle, byteDone, h, State.setShifts]

/-- One quad-wire clock (R136, R137, R161, R162), without the clock count. -/
theorem clockQuad_eq (p : Nat) (v : SampleWord) (s : State) :
    clockQuad p v s =
      if s.clockCount % 2 ≠ p % 2 then
        { s with
          mosiBytes := if s.txnOpen then s.mosiBytes ++ [shiftNibble s.quadShift (nibbleOf v)] else s.mosiBytes
          misoBytes := if s.txnOpen then s.misoBytes ++ [shiftNibble s.quadShift (nibbleOf v)] else s.misoBytes
          quadShift := 0x00#8
          emptyResultWarned := s.emptyResultWarned || !s.txnOpen
          anomaly := s.anomaly || (!s.txnOpen && !s.emptyResultWarned) }
      else { s with quadShift := shiftNibble s.quadShift (nibbleOf v) } := by
  by_cases h : s.clockCount % 2 = p % 2
  · simp [clockQuad, quadByteDone, h, State.setQuadShift]
  · simp only [clockQuad, quadByteDone, consume_pair]
    cases ho : s.txnOpen <;> cases hw : s.emptyResultWarned <;>
      simp [h, State.setQuadShift, ho, hw, State.appendPair, State.raiseAnomaly]

end Sys2Proof.Machine
end

