-- ==== Sys2Proof/Laws/Run.lean ====
section
/-!
SUPPORT. Runs of clock edges, one edge at a time, and the fields of the bounded form of a state.
-/
namespace Sys2Proof.Machine

/-- A run takes one edge and goes on from what it leaves. -/
theorem run_succ (n : Nat) (s : State) : Sys2Proof.core.run (n + 1) s = Sys2Proof.core.run n (edgeEffect s) := by
  have h : Sys2Proof.core.step s = .next (edgeEffect s) := step_eq s
  simp [Host.Core.run, h]

theorem run_zero (s : State) : Sys2Proof.core.run 0 s = .next s := rfl

/-- The pairs of a run, one edge at a time. -/
theorem steps_succ (n : Nat) (s : State) : steps (n + 1) s = (s, edgeEffect s) :: steps n (edgeEffect s) := by
  simp [steps, step_eq]

/-- An edge that accepts a sample runs the per-sample step. -/
theorem edgeEffect_sample {s : State} {e : Edge} {rest : List Edge} (hi : s.input = e :: rest) (hr : e.rst = false)
    (hv : e.sValid = true) : edgeEffect s = acceptSample e.sValue (portTime e s) (s.takeEdge rest) := by
  simp [edgeEffect, hi, hr, hv]

/-- An edge with a reset loads the reset values. -/
theorem edgeEffect_reset {s : State} {e : Edge} {rest : List Edge} (hi : s.input = e :: rest) (hr : e.rst = true) :
    edgeEffect s = (s.takeEdge rest).loadReset e.cfgVerbosity := by
  simp [edgeEffect, hi, hr]

/-! ## The bounded form (R52) -/

section bounded
variable (s : State)

@[simp] theorem State.bounded_params : s.bounded.params = s.params := rfl
@[simp] theorem State.bounded_lastSampleTime : s.bounded.lastSampleTime = s.lastSampleTime := rfl
@[simp] theorem State.bounded_fastestGap : s.bounded.fastestGap = s.fastestGap := rfl
@[simp] theorem State.bounded_transactionCount : s.bounded.transactionCount = s.transactionCount := rfl
@[simp] theorem State.bounded_clockCount : s.bounded.clockCount = s.clockCount := rfl
@[simp] theorem State.bounded_continuousMode : s.bounded.continuousMode = s.continuousMode := rfl
@[simp] theorem State.bounded_commandByte : s.bounded.commandByte = s.commandByte := rfl
@[simp] theorem State.bounded_quadSwitchPoint : s.bounded.quadSwitchPoint = s.quadSwitchPoint := rfl
@[simp] theorem State.bounded_mosiShift : s.bounded.mosiShift = s.mosiShift := rfl
@[simp] theorem State.bounded_misoShift : s.bounded.misoShift = s.misoShift := rfl
@[simp] theorem State.bounded_quadShift : s.bounded.quadShift = s.quadShift := rfl
@[simp] theorem State.bounded_mosiBytes : s.bounded.mosiBytes = s.mosiBytes.take 3 := rfl
@[simp] theorem State.bounded_misoBytes : s.bounded.misoBytes = s.misoBytes.take 3 := rfl
@[simp] theorem State.bounded_txnOpen : s.bounded.txnOpen = s.txnOpen := rfl
@[simp] theorem State.bounded_transactionStartTime : s.bounded.transactionStartTime = s.transactionStartTime := rfl
@[simp] theorem State.bounded_emptyResultWarned : s.bounded.emptyResultWarned = s.emptyResultWarned := rfl
@[simp] theorem State.bounded_verbosity : s.bounded.verbosity = s.verbosity := rfl
@[simp] theorem State.bounded_recOut : s.bounded.recOut = s.recOut := rfl
@[simp] theorem State.bounded_anomaly : s.bounded.anomaly = s.anomaly := rfl
@[simp] theorem State.bounded_input : s.bounded.input = s.input := rfl
@[simp] theorem State.bounded_freeIndex : s.bounded.freeIndex = s.freeIndex := rfl

end bounded

end Sys2Proof.Machine
end

