-- ==== Sys2Proof/Tests/Slice0.lean ====
section
/-!
SUPPORT. Tests of the model, and the witnesses of the statements that have hypotheses. Expected values come from
spec/95_test_vectors.md (the vector is named in the docstring) or were worked out by hand from the rules named.
-/
namespace Sys2Proof.Tests

open Sys2Proof.Machine

/-- The span of the tests. -/
def sp : Span := ⟨100, 330⟩

/-- The largest times the default parameters admit. -/
def spMax : Span := ⟨2 ^ 64 - 1, 2 ^ 64 - 1⟩

/-- The next state of an outcome. -/
def nextOf (o : Host.Outcome State Fault Refusal) : Option State :=
  match o with
  | .next t => some t
  | .fault _ => none
  | .refused _ => none

/-- After training: the threshold is 40 and the last sample was at `last` (vectors V-D). -/
def trained (last : Nat) : State := { State.reset with fastestGap := 40, lastSampleTime := some last }

/-- A trained state with the open transaction `M`, `S` that began at 100. -/
def opened (last : Nat) (M S : List Byte) : State :=
  { trained last with
    txnOpen := true, transactionCount := 1, transactionStartTime := 100, mosiBytes := M, misoBytes := S }

/-- A state of continuous mode whose trigger makes 0x0D switch at 5, with a residue nibble 7 (V-S2). -/
def residue : State :=
  { trained 90 with
    params := { Params.default with contModeInit := true, quadTrigger := [(0x0D#8, 5)] }
    continuousMode := true, commandByte := some 0x0D#8, quadSwitchPoint := some 5, quadShift := 0x07#8
    clockCount := 10 }

/-! ## Well-formedness: one ill-formed term for each check -/

theorem test_wf_time_too_wide : (Instr.errEmpty ⟨2 ^ 64, 0⟩).wellFormed Params.default = false := by decide
theorem test_wf_end_too_wide : (Instr.errEmpty ⟨0, 2 ^ 64⟩).wellFormed Params.default = false := by decide
theorem test_wf_marker_time : (Instr.mkAssert (2 ^ 64)).wellFormed Params.default = false := by decide
theorem test_wf_sample_time : (Instr.smpActive1w 0 (2 ^ 64)).wellFormed Params.default = false := by decide
theorem test_wf_devid_address : (Instr.rdReg sp 0x02#8 0x00#8).wellFormed Params.default = false := by decide
theorem test_wf_offset_address : (Instr.wrReg sp 0x35#8 0x00#8).wellFormed Params.default = false := by decide
theorem test_wf_known_command : (Instr.errUnknown sp 0x0D#8).wellFormed Params.default = false := by decide
theorem test_wf_ccw : ¬ { Params.default with ccW := 3 }.Wf := by decide
theorem test_wf_tcw : ¬ { Params.default with tcW := 0 }.Wf := by decide
theorem test_wf_init : ¬ { Params.default with fastestGapInit := 2 ^ 64 }.Wf := by decide
theorem test_wf_trigger : ¬ { Params.default with quadTrigger := [(0x0D#8, 2 ^ 32)] }.Wf := by decide
theorem test_wf_default : Params.default.Wf := by decide

/-! ## Decoding: every row, from bytes, words and tags written out from the spec -/

/-- V-I1, V-I2, V-I3. -/
theorem test_decode_devid :
    decode (.transaction [0x0B#8, 0x00#8, 0x00#8] [0x00#8, 0x00#8, 0x1D#8] sp) = .ok (.rdDevid00 sp 0x1D#8) ∧
    decode (.transaction [0x0B#8, 0x01#8, 0x00#8] [0x00#8, 0x00#8, 0x33#8] sp) = .ok (.rdDevid01 sp 0x33#8) ∧
    decode (.transaction [0x0B#8, 0x02#8, 0x00#8] [0x00#8, 0x00#8, 0xF2#8] sp) = .ok (.rdDevid02 sp 0xF2#8) :=
  ⟨rfl, rfl, rfl⟩

/-- V-I4, V-I9, V-I6, V-I7. -/
theorem test_decode_read :
    decode (.transaction [0x0B#8, 0x03#8, 0x00#8] [0x00#8, 0x00#8, 0x7E#8] sp) = .ok (.rdReg sp 0x03#8 0x7E#8) ∧
    decode (.transaction [0x0B#8, 0x20#8, 0x00#8, 0x00#8] [0x00#8, 0x00#8, 0x05#8, 0x99#8] sp)
      = .ok (.rdReg sp 0x20#8 0x05#8) ∧
    decode (.transaction [0x0B#8, 0x20#8] [0x00#8, 0x00#8] sp) = .ok (.rdRegNa sp 0x20#8) ∧
    decode (.transaction [0x0B#8, 0x00#8] [0x00#8, 0x00#8] sp) = .ok (.rdRegNa sp 0x00#8) :=
  ⟨rfl, rfl, rfl, rfl⟩

/-- V-I10, V-I11, V-I12. -/
theorem test_decode_offset :
    decode (.transaction [0x0A#8, 0x33#8, 0x7F#8] [0x00#8, 0x00#8, 0x00#8] sp) = .ok (.setOffsetX sp 0x7F#8) ∧
    decode (.transaction [0x0A#8, 0x34#8, 0x80#8] [0x00#8, 0x00#8, 0x00#8] sp) = .ok (.setOffsetY sp 0x80#8) ∧
    decode (.transaction [0x0A#8, 0x35#8, 0x01#8] [0x00#8, 0x00#8, 0x00#8] sp) = .ok (.setOffsetZ sp 0x01#8) :=
  ⟨rfl, rfl, rfl⟩

/-- V-I13, V-I14, V-I19, V-I26. -/
theorem test_decode_write_fifo :
    decode (.transaction [0x0A#8, 0x32#8, 0x10#8] [0x00#8, 0x00#8, 0x00#8] sp) = .ok (.wrReg sp 0x32#8 0x10#8) ∧
    decode (.transaction [0x0A#8, 0x36#8, 0x10#8] [0x00#8, 0x00#8, 0x00#8] sp) = .ok (.wrReg sp 0x36#8 0x10#8) ∧
    decode (.transaction [0x0D#8, 0xAA#8, 0xBB#8] [0x00#8, 0x42#8, 0x43#8] sp) = .ok (.rdFifo sp 0x42#8) ∧
    decode (.transaction [0x0D#8] [0x00#8, 0x42#8] sp) = .ok (.rdFifo sp 0x42#8) :=
  ⟨rfl, rfl, rfl, rfl⟩

/-- V-I8, V-I16, V-I17, V-I20, V-I21, V-I23, V-I24. -/
theorem test_decode_errors :
    decode (.transaction [0x0B#8] [0x00#8] sp) = .ok (.errShortRd sp) ∧
    decode (.transaction [0x0A#8, 0x33#8] [0x00#8, 0x00#8] sp) = .ok (.errShortWr sp) ∧
    decode (.transaction [0x0A#8] [0x00#8] sp) = .ok (.errShortWr sp) ∧
    decode (.transaction [0x0D#8] [0x00#8] sp) = .ok (.errShortFifo sp) ∧
    decode (.transaction [0xFF#8] [0x12#8] sp) = .ok (.errUnknown sp 0xFF#8) ∧
    decode (.transaction [0x0C#8, 0x20#8, 0x00#8] [0x00#8, 0x00#8, 0x05#8] sp) = .ok (.errUnknown sp 0x0C#8) ∧
    decode (.transaction [] [] sp) = .ok (.errEmpty sp) :=
  ⟨rfl, rfl, rfl, rfl, rfl, rfl, rfl⟩

/-- R70: bit 15 is the chip-select flag, bits 14:0 the data. R90: `A(7; 1, 1)` is 0x0003, `Q(7; 0xA)` is 0x000A. -/
theorem test_decode_samples :
    decode (.sample false 0b1111111111111111#16 7) = .ok (.smpIdle 0b111111111111111#15 7) ∧
    decode (.sample true 0b1000000000000000#16 7) = .ok (.smpIdle 0#15 7) ∧
    decode (.sample false 0b0000000000000011#16 7) = .ok (.smpActive1w 0b000000000000011#15 7) ∧
    decode (.sample true 0b0000000000001010#16 7) = .ok (.smpActive4w 0b000000000001010#15 7) ∧
    decode (.sample false 0b0111111111111100#16 7) = .ok (.smpActive1w 0b111111111111100#15 7) := by
  decide

/-- R75 with the row conditions of the opcode table. -/
theorem test_decode_markers :
    decode (.marker false true 0b00#2 100 0#8 0#8) = .ok (.mkAssert 100) ∧
    decode (.marker true false 0b01#2 0 0x20#8 0x05#8) = .ok (.mkBytepairOpen 0x20#8 0x05#8) ∧
    decode (.marker false true 0b01#2 0 0x20#8 0x05#8) = .ok (.mkBytepairOrphan 0x20#8 0x05#8) ∧
    decode (.marker true true 0b10#2 330 0#8 0#8) = .ok (.mkDeassertEmpty 330) ∧
    decode (.marker true false 0b10#2 330 0#8 0#8) = .ok (.mkDeassert 330) ∧
    decode (.marker true false 0b11#2 330 0#8 0#8) = .error .reservedMarkerTag :=
  ⟨rfl, rfl, rfl, rfl, rfl, rfl⟩

/-- Bare words of the table: the match values of RD_DEVID_01, SET_OFFSET_Z, SMP_IDLE and the marker tags. -/
theorem test_table_words :
    decodeTableWord 16 0x0B01 = some (.rdDevid01 ⟨0, 0⟩ 0x00#8) ∧
    decodeTableWord 16 0x0A35 = some (.setOffsetZ ⟨0, 0⟩ 0x00#8) ∧
    decodeTableWord 8 0x0D = some (.rdFifo ⟨0, 0⟩ 0x00#8) ∧
    decodeTableWord 16 0x8000 = some (.smpIdle 0 0) ∧
    decodeTableWord 8 0b01 = some (.mkBytepairOpen 0x00#8 0x00#8) ∧
    decodeTableWord 8 0b11 = none := by
  decide

/-- The first step after the placing of the RD_REG key 0x0B20 outputs its record; that of the BytePair tag
appends a pair. -/
theorem test_fetch_word :
    (nextOf (step (State.reset.withFetchWord 16 0x0B20))).map (·.recOut)
      = some (some ⟨⟨0, 0⟩, .readRegister 0x20#8 (some 0x00#8)⟩) ∧
    (nextOf (step (State.reset.withFetchWord 8 0b01))).map (·.mosiBytes) = some [0x00#8] := by
  decide

/-! ## Command rows -/

/-- W1: the record of a device-ID read, from each of its three rows. -/
theorem test_exec_devid :
    (nextOf (exec (.rdDevid00 sp 0x1D#8) State.reset)).map (·.recOut) = some (some ⟨sp, .readDeviceId 0x1D#8⟩) ∧
    (nextOf (exec (.rdDevid01 sp 0x33#8) State.reset)).map (·.recOut) = some (some ⟨sp, .readDeviceId 0x33#8⟩) ∧
    (nextOf (exec (.rdDevid02 sp 0xF2#8) State.reset)).map (·.recOut) = some (some ⟨sp, .readDeviceId 0xF2#8⟩) := by
  decide

/-- W2, V-I6. -/
theorem test_exec_read :
    (nextOf (exec (.rdReg sp 0x20#8 0x05#8) State.reset)).map (·.recOut)
      = some (some ⟨sp, .readRegister 0x20#8 (some 0x05#8)⟩) ∧
    (nextOf (exec (.rdRegNa sp 0x20#8) State.reset)).map (·.recOut)
      = some (some ⟨sp, .readRegister 0x20#8 none⟩) := by
  decide

/-- W3, V-I11, V-I12, W4. -/
theorem test_exec_write :
    (nextOf (exec (.setOffsetX sp 0x7F#8) State.reset)).map (·.recOut) = some (some ⟨sp, .setOffset .x 0x7F#8⟩) ∧
    (nextOf (exec (.setOffsetY sp 0x80#8) State.reset)).map (·.recOut) = some (some ⟨sp, .setOffset .y 0x80#8⟩) ∧
    (nextOf (exec (.setOffsetZ sp 0x01#8) State.reset)).map (·.recOut) = some (some ⟨sp, .setOffset .z 0x01#8⟩) ∧
    (nextOf (exec (.wrReg sp 0x50#8 0x02#8) State.reset)).map (·.recOut)
      = some (some ⟨sp, .writeRegister 0x50#8 0x02#8⟩) := by
  decide

/-- W5, W6 and the short commands. -/
theorem test_exec_fifo_errors :
    (nextOf (exec (.rdFifo sp 0x42#8) State.reset)).map (·.recOut) = some (some ⟨sp, .readFifo 0x42#8⟩) ∧
    (nextOf (exec (.errUnknown sp 0xFF#8) State.reset)).map (·.recOut) = some (some ⟨sp, .error⟩) ∧
    (nextOf (exec (.errShortRd sp) State.reset)).map (·.recOut) = some (some ⟨sp, .error⟩) ∧
    (nextOf (exec (.errShortWr sp) State.reset)).map (·.recOut) = some (some ⟨sp, .error⟩) ∧
    (nextOf (exec (.errShortFifo sp) State.reset)).map (·.recOut) = some (some ⟨sp, .error⟩) ∧
    (nextOf (exec (.errEmpty sp) State.reset)).map (·.recOut) = some (some ⟨sp, .error⟩) := by
  decide

/-- V-F, row OnlyErrors: a ReadRegister is suppressed, an Error is not. -/
theorem test_filter_only_errors :
    (nextOf (exec (.rdReg sp 0x20#8 0x05#8) { State.reset with verbosity := .onlyErrors })).map (·.recOut)
      = some none ∧
    (nextOf (exec (.errUnknown sp 0xFF#8) { State.reset with verbosity := .onlyErrors })).map (·.recOut)
      = some (some ⟨sp, .error⟩) := by
  decide

/-- V-F with `IS_CONTROL = fun k => k == WriteRegister`. -/
theorem test_filter_control :
    passes { Params.default with controlKinds := [.writeRegister] } .onlyData .writeRegister = false ∧
    passes { Params.default with controlKinds := [.writeRegister] } .onlyData .error = true ∧
    passes { Params.default with controlKinds := [.writeRegister] } .onlyControl .writeRegister = true ∧
    passes { Params.default with controlKinds := [.writeRegister] } .onlyControl .error = false := by
  decide

/-! ## Marker rows -/

/-- V-M1. -/
theorem test_exec_assert :
    (nextOf (exec (.mkAssert 100) (trained 10))).map (fun t => (t.txnOpen, t.mosiBytes, t.transactionStartTime))
      = some (true, [], 100) := by
  decide

/-- V-M2. -/
theorem test_exec_bytepair :
    (nextOf (exec (.mkBytepairOpen 0x20#8 0x00#8) (opened 10 [0x0B#8] [0x00#8]))).map
      (fun t => (t.mosiBytes, t.misoBytes)) = some ([0x0B#8, 0x20#8], [0x00#8, 0x00#8]) := by
  decide

/-- V-M3 and V-M4. -/
theorem test_exec_orphan :
    (nextOf (exec (.mkBytepairOrphan 0x0B#8 0x00#8) (trained 10))).map
      (fun t => (t.anomaly, t.emptyResultWarned, t.mosiBytes)) = some (true, true, []) ∧
    (nextOf (exec (.mkBytepairOrphan 0x00#8 0x1D#8) { trained 10 with emptyResultWarned := true })).map
      (fun t => (t.anomaly, t.emptyResultWarned)) = some (false, true) := by
  decide

/-- V-M5. -/
theorem test_exec_deassert_empty :
    (nextOf (exec (.mkDeassertEmpty 100) (opened 10 [] []))).map (fun t => (t.txnOpen, t.recOut))
      = some (false, none) := by
  decide

/-- V-M6 and V-M7. -/
theorem test_exec_deassert :
    (nextOf (exec (.mkDeassert 330) (opened 10 [0x0B#8, 0x20#8, 0x00#8] [0x00#8, 0x00#8, 0x05#8]))).map
      (fun t => (t.txnOpen, t.recOut)) = some (false, some ⟨⟨100, 330⟩, .readRegister 0x20#8 (some 0x05#8)⟩) ∧
    (nextOf (exec (.mkDeassert 170) { opened 10 [0xFF#8] [0x12#8] with verbosity := .onlyData })).map (·.recOut)
      = some (some ⟨⟨100, 170⟩, .error⟩) := by
  decide

/-! ## Sample rows -/

/-- V-D5 and V-S1. -/
theorem test_exec_idle :
    nextOf (exec (.smpIdle 0 1010) (opened 10 [] [])) = some { opened 10 [] [] with lastSampleTime := some 1010 } ∧
    nextOf (exec (.smpIdle 0x7FFF#15 20) (trained 10)) = some (trained 20) := by
  decide

/-- V-A1, V-A4, V-A6. -/
theorem test_exec_shift :
    (nextOf (exec (.smpActive1w 3 20)
        { trained 10 with clockCount := 3, mosiShift := 0x05#8, misoShift := 0x02#8 })).map
      (fun t => (t.mosiShift, t.misoShift, t.clockCount)) = some (0x0B#8, 0x05#8, 4) ∧
    (nextOf (exec (.smpActive1w 0x7FFC#15 20) { trained 10 with clockCount := 2, mosiShift := 0x01#8 })).map
      (fun t => (t.mosiShift, t.misoShift)) = some (0x02#8, 0x00#8) ∧
    (nextOf (exec (.smpActive1w 1 20) { trained 10 with clockCount := 6, mosiShift := 0xFF#8 })).map
      (fun t => (t.mosiShift, t.clockCount)) = some (0xFF#8, 7) := by
  decide

/-- V-A2 and V-A3. -/
theorem test_exec_byte :
    (nextOf (exec (.smpActive1w 1 20) { opened 10 [] [] with clockCount := 7, mosiShift := 0x05#8 })).map
      (fun t => (t.commandByte, t.mosiBytes, t.misoBytes, t.mosiShift, t.clockCount))
        = some (some 0x0B#8, [0x0B#8], [0x00#8], 0x00#8, 8) ∧
    (nextOf (exec (.smpActive1w 2 20)
        { opened 10 [] [] with clockCount := 15, mosiShift := 0x10#8, misoShift := 0x7F#8 })).map
      (fun t => (t.commandByte, t.mosiBytes, t.misoBytes)) = some (none, [0x20#8], [0xFF#8]) := by
  decide

/-- V-A7, V-A8, V-A9. -/
theorem test_exec_quad :
    (nextOf (exec (.smpActive4w 0xA 20) { opened 10 [] [] with quadSwitchPoint := some 8, clockCount := 8 })).map
      (fun t => (t.quadShift, t.mosiBytes)) = some (0x0A#8, []) ∧
    (nextOf (exec (.smpActive4w 0x5 20)
        { opened 10 [] [] with quadSwitchPoint := some 8, clockCount := 9, quadShift := 0x0A#8 })).map
      (fun t => (t.quadShift, t.mosiBytes, t.misoBytes)) = some (0x00#8, [0xA5#8], [0xA5#8]) ∧
    (nextOf (exec (.smpActive4w 0x4 20)
        { opened 10 [] [] with quadSwitchPoint := some 5, clockCount := 8, quadShift := 0x07#8 })).map
      (fun t => t.mosiBytes) = some [0x74#8] := by
  decide

/-- V-A11, V-A15. -/
theorem test_exec_quad_edges :
    (nextOf (exec (.smpActive4w 0x3 20)
        { trained 10 with quadSwitchPoint := some 16, clockCount := 16, mosiShift := 0x15#8 })).map
      (fun t => (t.quadShift, t.mosiShift)) = some (0x03#8, 0x15#8) ∧
    (nextOf (exec (.smpActive4w 0x9 20) { trained 10 with quadSwitchPoint := some 0 })).map
      (fun t => (t.quadShift, t.commandByte)) = some (0x09#8, none) := by
  decide

/-- V-D13: the restart of a boundary. -/
theorem test_exec_boundary_restart :
    (nextOf (exec (.smpActive1w 0 1000)
        { opened 230 [] [] with
          clockCount := 21, mosiShift := 0x15#8, quadSwitchPoint := some 16, commandByte := some 0x0B#8 })).map
      (fun t => (t.clockCount, t.mosiShift, t.quadSwitchPoint, t.commandByte, t.transactionCount))
        = some (1, 0x00#8, none, none, 2) := by
  decide

/-- V-D11 and V-D12: the replay of a continuous boundary. -/
theorem test_exec_boundary_replay :
    (nextOf (exec (.smpActive1w 0 1000)
        { opened 330 [] [] with continuousMode := true, commandByte := some 0x0B#8 })).map
      (fun t => (t.clockCount, t.mosiBytes, t.misoBytes)) = some (9, [0x0B#8], [0x00#8]) ∧
    (nextOf (exec (.smpActive1w 0 100) { trained 10 with continuousMode := true })).map
      (fun t => (t.transactionStartTime, t.mosiBytes)) = some (100, [0x00#8]) := by
  decide

/-- V-S2: two byte pairs in one step, the second with the residue nibble. -/
theorem test_exec_boundary_residue :
    (nextOf (exec (.smpActive4w 4 1000) residue)).map (·.mosiBytes) = some [0x0D#8, 0x74#8] := by
  decide

/-- V-D1 to V-D4, V-D7, V-D9, V-D14: the gap, the threshold and the boundary test. -/
theorem test_detector_tests :
    thresholdOf 0 State.reset = 2 ^ 64 - 1 ∧ isBoundary 0 0 State.reset = false ∧
    thresholdOf 10 { State.reset with lastSampleTime := some 0 } = 40 ∧
    isBoundary 0 51 (trained 10) = true ∧ isBoundary 0 50 (trained 10) = false ∧
    gapOf 400 (trained 500) = 0 ∧ thresholdOf 400 (trained 500) = 0 ∧
    isBoundary 0 107 { trained 106 with fastestGap := 0 } = true ∧
    isBoundary 0 (2 ^ 64 - 1) { State.reset with lastSampleTime := some 0 } = false := by
  decide

/-! ## Edges and outputs -/

/-- V-S5 and V-S6: a reset edge with a sample on it takes no step, and neither does an edge without a sample. -/
theorem test_edges_without_step :
    (nextOf (step { opened 10 [0x0B#8] [0x00#8] with input := [⟨true, true, 0, 1000, 2⟩] })).map
      (fun t => (t.lastSampleTime, t.fastestGap, t.txnOpen, t.verbosity, t.recOut))
        = some (none, 2 ^ 64 - 1, false, .onlyErrors, none) ∧
    nextOf (step { trained 10 with anomaly := true, input := [⟨false, false, 0, 1000, 2⟩] })
      = some { trained 10 with freeIndex := 1 } := by
  decide

/-- The bundle of V-I11. -/
theorem test_record_wires :
    recordWires ⟨sp, .setOffset .y 0x80#8⟩ = ⟨true, 2, 100, 330, 0x00#8, 0x80#8, true, 1⟩ := by decide

/-- R196: 0x1D is "1D" and 0x05 is "05". -/
theorem test_hex2 : hex2 0x1D#8 = ['1', 'D'] ∧ hex2 0x05#8 = ['0', '5'] := by decide

/-! ## Witnesses: for each statement with hypotheses, a concrete case that meets them all -/

/-- DecodeInvertsEncode: the largest times and the register next to the device-ID range. -/
theorem witness_wellFormed :
    (Instr.rdReg spMax 0x03#8 0xFF#8).wellFormed Params.default = true ∧
    (Instr.smpActive4w 0x7FFF#15 (2 ^ 64 - 1)).wellFormed Params.default = true ∧
    (Instr.mkDeassert 0).wellFormed Params.default = true := by
  decide

/-- SampleDecodingKeepsEveryBit: an idle and an active word. -/
theorem witness_sample_decodes :
    decode (.sample true 0xFFFF#16 0) = .ok (.smpIdle 0x7FFF#15 0) ∧
    decode (.sample true 0x7FFF#16 0) = .ok (.smpActive4w 0x7FFF#15 0) := by
  decide

/-- StepRunsTheDecodedSample, EverySampleUpdatesThresholdAndTime, ConfigurationIsFixedBetweenResets. -/
theorem witness_step_sample :
    ∃ (s : State) (e : Edge) (rest : List Edge) (i : Instr),
      s.input = e :: rest ∧ e.rst = false ∧ e.sValid = true ∧
      decode (.sample (quadAfterDetector e.sValue (e.sTs % 2 ^ s.params.tsW) s) e.sValue (e.sTs % 2 ^ s.params.tsW))
        = .ok i ∧
      i ∈ [Instr.smpIdle 3 1000, .smpActive1w 3 1000, .smpActive4w 3 1000] :=
  ⟨{ trained 10 with input := [sampleEdge 3 1000] }, sampleEdge 3 1000, [], .smpActive1w 3 1000, by decide⟩

/-- DeassertRunsTheDecodedCommand and DeassertOutputsTheRecord. -/
theorem witness_deassert_command :
    ∃ (s u : State) (t : Nat) (i : Instr),
      s.mosiBytes ≠ [] ∧ s.misoBytes ≠ [] ∧
      decode (.transaction s.mosiBytes s.misoBytes ⟨s.transactionStartTime, t⟩) = .ok i ∧ exec i s = .next u :=
  ⟨opened 10 [0xFF#8] [0x12#8], { opened 10 [0xFF#8] [0x12#8] with recOut := some ⟨⟨100, 170⟩, .error⟩ }, 170,
    .errUnknown ⟨100, 170⟩ 0xFF#8, by decide, by decide, rfl, rfl⟩

/-- ConsumedMarkerIsItsRow: one case for each variant and row. -/
theorem witness_consumed_marker :
    decode (.marker (trained 10).txnOpen true (Marker.assert 100).tag 100 0 0) = .ok (.mkAssert 100) ∧
    decode (.marker (trained 10).txnOpen true (Marker.bytePair 1 2).tag 0 1 2) = .ok (.mkBytepairOrphan 1 2) ∧
    decode (.marker (opened 10 [] []).txnOpen true (Marker.bytePair 1 2).tag 0 1 2) = .ok (.mkBytepairOpen 1 2) ∧
    decode (.marker (opened 10 [] []).txnOpen ((opened 10 [] []).mosiBytes.isEmpty || false) (Marker.deassert 7).tag
      7 0 0) = .ok (.mkDeassertEmpty 7) ∧
    decode (.marker (opened 10 [1] [2]).txnOpen ((opened 10 [1] [2]).mosiBytes.isEmpty || false)
      (Marker.deassert 7).tag 7 0 0) = .ok (.mkDeassert 7) :=
  ⟨rfl, rfl, rfl, rfl, rfl⟩

/-- ReadRegisterRecord, WriteRegisterRecord, UnknownCommandRecord: the values next to the excluded ones. -/
theorem witness_other_addresses :
    (∀ a ∈ [0x03#8, 0xFF#8], a ≠ 0x00#8 ∧ a ≠ 0x01#8 ∧ a ≠ 0x02#8) ∧
    (∀ a ∈ [0x32#8, 0x36#8], a ≠ 0x33#8 ∧ a ≠ 0x34#8 ∧ a ≠ 0x35#8) ∧
    (∀ c ∈ [0x09#8, 0x0C#8, 0x0E#8], c ≠ 0x0A#8 ∧ c ≠ 0x0B#8 ∧ c ≠ 0x0D#8) := by
  decide

/-- ReadRegisterWithoutValueRecord, ShortCommandRecord, IgnoredBytesChangeNoRecord: lengths at the limits. -/
theorem witness_lengths :
    [0x00#8, 0x00#8].length < 3 ∧ [0x33#8].length < 2 ∧ [0x00#8].length < 2 ∧
    3 ≤ [0x0B#8, 0x20#8, 0x00#8].length ∧ 3 ≤ [0x00#8, 0x00#8, 0x05#8].length := by
  decide

/-- OnlyErrorsOutputsErrorsOnly: an edge at this verbosity that outputs a record. -/
theorem witness_only_errors :
    ∃ (s t : State) (r : Record), s.verbosity = .onlyErrors ∧ step s = .next t ∧ t.recOut = some r :=
  ⟨{ opened 170 [0xFF#8] [0x12#8] with verbosity := .onlyErrors, input := [sampleEdge 0 1000] }, _,
    ⟨⟨100, 170⟩, .error⟩, rfl, rfl, by decide⟩

/-- OnlyControlOutputsNothing: an edge at this verbosity that closes a transaction. -/
theorem witness_only_control :
    ∃ (s t : State), s.verbosity = .onlyControl ∧ s.params.controlKinds = [] ∧ takesDeassert s = true ∧ step s = .next t :=
  ⟨{ opened 170 [0xFF#8] [0x12#8] with verbosity := .onlyControl, input := [sampleEdge 0 1000] }, _,
    rfl, rfl, by decide, rfl⟩

/-- VerbosityChangesOnlyRecords and BoundedBufferIsEnough: a run of two edges that outputs a record. -/
theorem witness_run :
    ∃ (s t : State), Sys2Proof.core.run 2 s = .next t ∧ recordsOut 2 s = [⟨⟨100, 170⟩, .error⟩] :=
  ⟨{ opened 170 [0xFF#8] [0x12#8] with input := [sampleEdge 0 1000, sampleEdge 1 1010] }, _, rfl, by decide⟩

/-- BytePairIsAppended, OrphanPairIsReportedOnce, EmptyDeassertGivesNoRecord, MarkerRowsKeepTheirGuards: a state for each
guard. -/
theorem witness_guards :
    (opened 10 [] []).txnOpen = true ∧ ((trained 10).txnOpen = false ∧ (trained 10).emptyResultWarned = false) ∧
    (opened 10 [] []).mosiBytes = [] ∧ (opened 10 [] []).misoBytes = [] ∧
    (opened 10 [0x0B#8] [0x00#8]).mosiBytes ≠ [] ∧ (opened 10 [0x0B#8] [0x00#8]).misoBytes ≠ [] ∧
    ∃ s : State, s.txnOpen = false ∧ s.emptyResultWarned = true :=
  ⟨rfl, ⟨rfl, rfl⟩, rfl, rfl, by decide, by decide, { trained 10 with emptyResultWarned := true }, rfl, rfl⟩

/-- SmallGapStartsNoTransaction, SingleWireClockShiftsOneBit: the gap equal to the threshold (V-D4), and both forms of
single-wire mode; the clock index below a completion. -/
theorem witness_single_clock :
    gapOf 50 (trained 10) ≤ (trained 10).fastestGap ∧ (trained 10).quadSwitchPoint = none ∧
    (trained 10).clockCount % 8 ≠ 7 ∧
    ∃ s : State, gapOf 50 s ≤ s.fastestGap ∧ (∃ p, s.quadSwitchPoint = some p ∧ s.clockCount < p) ∧
      s.clockCount % 8 ≠ 7 :=
  ⟨by decide, rfl, by decide,
    { trained 10 with quadSwitchPoint := some 15, clockCount := 14 }, by decide, ⟨15, rfl, by decide⟩, by decide⟩

/-- SingleWireByteCompletes: clock 7 without a switch point, and clock 15 just below one (V-A10). -/
theorem witness_byte_completes :
    (∃ s : State, gapOf 50 s ≤ s.fastestGap ∧ s.quadSwitchPoint = none ∧ s.clockCount = 7 ∧ s.clockCount % 8 = 7) ∧
    ∃ s : State, gapOf 50 s ≤ s.fastestGap ∧ (∃ p, s.quadSwitchPoint = some p ∧ s.clockCount < p) ∧
      s.clockCount % 8 = 7 ∧ s.txnOpen = true :=
  ⟨⟨{ trained 10 with clockCount := 7 }, by decide⟩,
    { opened 10 [] [] with quadSwitchPoint := some 16, clockCount := 15 }, by decide, ⟨16, rfl, by decide⟩, by decide⟩

/-- QuadWireClock: the even and the odd offset, the even one at the switch point itself. -/
theorem witness_quad_clock :
    (∃ (s : State) (p : Nat), gapOf 50 s ≤ s.fastestGap ∧ s.quadSwitchPoint = some p ∧ p ≤ s.clockCount ∧
      (s.clockCount - p) % 2 = 0) ∧
    ∃ (s : State) (p : Nat), gapOf 50 s ≤ s.fastestGap ∧ s.quadSwitchPoint = some p ∧ p ≤ s.clockCount ∧
      (s.clockCount - p) % 2 = 1 :=
  ⟨⟨{ trained 10 with quadSwitchPoint := some 8, clockCount := 8 }, 8, by decide⟩,
    { trained 10 with quadSwitchPoint := some 8, clockCount := 9 }, 8, by decide⟩

/-- BoundaryReportsThePreviousTransaction, BoundaryOpensTheNextTransaction, BoundarySampleRestartsTheFrame: the smallest
gap that is a boundary (V-D3), outside continuous mode. -/
theorem witness_boundary :
    (opened 10 [0xFF#8] [0x12#8]).lastSampleTime = some 10 ∧
    (opened 10 [0xFF#8] [0x12#8]).fastestGap < gapOf 51 (opened 10 [0xFF#8] [0x12#8]) ∧
    (opened 10 [0xFF#8] [0x12#8]).continuousMode = false ∧ 1 ≤ (opened 10 [0xFF#8] [0x12#8]).params.ccW := by
  decide

/-- ContinuousBoundaryReplaysTheCommand: without a switch point, and with the least one that keeps clock 8 single. -/
theorem witness_continuous :
    (∃ s : State, s.continuousMode = true ∧ 4 ≤ s.params.ccW ∧ s.fastestGap < gapOf 51 s ∧ s.quadSwitchPoint = none) ∧
    ∃ s : State, s.continuousMode = true ∧ 4 ≤ s.params.ccW ∧ s.fastestGap < gapOf 51 s ∧
      ∃ p, s.quadSwitchPoint = some p ∧ 8 < p :=
  ⟨⟨{ trained 10 with continuousMode := true }, by decide⟩,
    { trained 10 with continuousMode := true, quadSwitchPoint := some 9 }, by decide, by decide, by decide, 9, rfl,
    by decide⟩

/-- ContinuousBoundaryOnAQuadClock: the odd switch point of V-S2, and the largest one, which is even. -/
theorem witness_continuous_quad :
    (residue.continuousMode = true ∧ 4 ≤ residue.params.ccW ∧ residue.fastestGap < gapOf 1000 residue ∧
      residue.quadSwitchPoint = some 5 ∧ 5 ≤ 8) ∧
    ∃ s : State, s.continuousMode = true ∧ 4 ≤ s.params.ccW ∧ s.fastestGap < gapOf 1000 s ∧
      s.quadSwitchPoint = some 8 ∧ 8 ≤ 8 :=
  ⟨by decide, { residue with quadSwitchPoint := some 8 }, by decide⟩

/-- ThresholdIsFourTimesTheSmallestGap: three samples from reset. -/
theorem witness_threshold :
    ∃ (s t : State) (x : SampleWord × Nat) (xs : List (SampleWord × Nat)),
      s.input = sampleEdges (x :: xs) ++ [] ∧ s.lastSampleTime = none ∧ (∀ y ∈ x :: xs, y.2 < 2 ^ s.params.tsW) ∧
      Sys2Proof.core.run (xs.length + 1) s = .next t :=
  ⟨{ State.reset with input := sampleEdges [(0x8000, 0), (0x8000, 10), (0, 15)] }, _, (0x8000, 0),
    [(0x8000, 10), (0, 15)], rfl, rfl, by decide, rfl⟩

/-- ZeroThresholdIsPermanent: V-D9. -/
theorem witness_zero_threshold :
    ∃ (s : State) (e : Edge) (last : Nat), s.fastestGap = 0 ∧ takesReset s = false ∧ s.input = [e] ∧ e.rst = false ∧
      e.sValid = true ∧ e.sValue.getLsbD 15 = false ∧ s.lastSampleTime = some last ∧ last < e.sTs ∧
      e.sTs < 2 ^ s.params.tsW :=
  ⟨{ opened 106 [] [] with fastestGap := 0, input := [sampleEdge 0 107] }, sampleEdge 0 107, 106, by decide⟩

/-- FirstTwoSamplesStartNoTransaction: two samples from reset, the second as late as it can be (V-D14). -/
theorem witness_first_two :
    ∃ (s : State) (e1 e2 : Edge), s.fastestGap = 2 ^ s.params.tsW - 1 ∧ s.lastSampleTime = none ∧
      s.transactionCount = 0 ∧ s.input = [e1, e2] ∧ e1.rst = false ∧ e2.rst = false :=
  ⟨{ State.reset with input := [sampleEdge 0 0, sampleEdge 0 (2 ^ 64 - 1)] }, sampleEdge 0 0,
    sampleEdge 0 (2 ^ 64 - 1), by decide⟩

/-- The eight samples of MOSI 0x0B, MISO 0x00 (P1). -/
def eight : List (SampleWord × Nat) := [(0, 20), (0, 30), (0, 40), (0, 50), (1, 60), (0, 70), (1, 80), (1, 90)]

/-- EightSingleWireClocksMakeOneByte. -/
theorem witness_eight :
    ∃ s : State, s.input = sampleEdges eight ++ [] ∧ eight.length = 8 ∧ s.txnOpen = true ∧ 4 ≤ s.params.ccW ∧
      s.clockCount < 2 ^ s.params.ccW ∧ s.clockCount % 8 = 0 ∧ (∀ x ∈ eight, x.1.getLsbD 15 = false) ∧
      (∀ st ∈ steps 8 s, takesBoundary st.1 = false ∧ isSingleWire st.1 = true) :=
  ⟨{ opened 10 [] [] with input := sampleEdges eight }, by decide⟩

/-- TwoQuadClocksMakeOneByte: V-A13. -/
theorem witness_two_quad :
    ∃ (s : State) (e1 e2 : Edge), s.input = [e1, e2] ∧ e1.rst = false ∧ e2.rst = false ∧ e1.sValid = true ∧
      e2.sValid = true ∧ e1.sValue.getLsbD 15 = false ∧ e2.sValue.getLsbD 15 = false ∧
      (∀ st ∈ steps 2 s, takesBoundary st.1 = false) ∧ s.txnOpen = true ∧ s.quadSwitchPoint = some 8 ∧
      8 ≤ s.clockCount ∧ (s.clockCount - 8) % 2 = 0 ∧ s.clockCount + 1 < 2 ^ s.params.ccW :=
  ⟨{ opened 10 [] [] with
      quadSwitchPoint := some 8, clockCount := 8, input := [sampleEdge 4 20, sampleEdge 2 30] },
    sampleEdge 4 20, sampleEdge 2 30, by decide⟩

/-- IgnoredSampleBits: two data fields that agree in the bits that count only, in single-wire mode. -/
theorem witness_ignored_bits :
    (0x7FF3#15).extractLsb' 0 4 = (0x0003#15).extractLsb' 0 4 ∧
    (0x000F#15).extractLsb' 0 2 = (0x0003#15).extractLsb' 0 2 ∧
    quadAfterDetector (sampleWord false 0x000F#15) 20 (trained 10) = false := by
  decide

/-- ResetEdgeLoadsTheResetValues, EdgeWithoutSampleHoldsTheState. -/
theorem witness_edges :
    (∃ s : State, s.input = ⟨true, true, 0, 1000, 3⟩ :: []) ∧ ∃ s : State, s.input = ⟨false, false, 0, 1000, 3⟩ :: [] :=
  ⟨⟨{ trained 10 with input := [⟨true, true, 0, 1000, 3⟩] }, rfl⟩,
    { trained 10 with input := [⟨false, false, 0, 1000, 3⟩] }, rfl⟩

/-- ThresholdNeverIncreases: an edge that lowers it (V-D6). -/
theorem witness_threshold_falls :
    ∃ (s t : State), takesReset s = false ∧ step s = .next t ∧ s.lastSampleTime.isSome = true ∧
      t.fastestGap < s.fastestGap :=
  ⟨{ trained 100 with input := [sampleEdge 0 105] }, _, rfl, rfl, rfl, by decide⟩

/-- EveryEdgeKeepsTheInvariant: an open transaction at a boundary. -/
theorem witness_invariant :
    ∃ (s t : State), s.Inv ∧ takesBoundary s = true ∧ step s = .next t :=
  ⟨{ opened 170 [0xFF#8] [0x12#8] with input := [sampleEdge 0 1000] }, _, by decide, by decide, rfl⟩

/-- AnomalyPulsesAtMostOnce: one edge without a reset that pulses (V-M3, at the end of a first byte). -/
theorem witness_anomaly :
    ∃ s : State, (∀ st ∈ steps 1 s, takesReset st.1 = false) ∧ (steps 1 s).countP (fun st => st.2.anomaly) = 1 :=
  ⟨{ trained 10 with clockCount := 7, input := [sampleEdge 1 20] }, by decide⟩

/-- OutputStrobes: a state that has just output a record. -/
theorem witness_record_out :
    ∃ (s : State) (r : Record), s.recOut = some r :=
  ⟨{ trained 10 with recOut := some ⟨sp, .error⟩ }, ⟨sp, .error⟩, rfl⟩

end Sys2Proof.Tests
end

section
/-!
PROOFS. The invariant between steps (spec/10_state.md R41). One lemma per state operation says that it keeps
`State.Inv` and under which guard; the detector and the accumulator are composed of them, and an edge of the two.
-/
namespace Sys2Proof.Machine

/-! ## What an edge can do -/

/-- An edge holds the state (R233), loads the reset values (R271) or accepts one sample (R227). -/
theorem edgeEffect_cases (s : State) :
    (∃ rest, edgeEffect s = (s.takeEdge rest).clearOutputs) ∨
      (takesReset s = true ∧ ∃ rest cfg, edgeEffect s = (s.takeEdge rest).loadReset cfg) ∨
      ∃ rest e, edgeEffect s = acceptSample e.sValue (portTime e s) (s.takeEdge rest) := by
  cases hi : s.input with
  | nil => exact .inl ⟨[], by simp [edgeEffect, hi, holdEdge]⟩
  | cons e rest =>
    cases hr : e.rst with
    | true => exact .inr (.inl ⟨by simp [takesReset, hi, hr], rest, e.cfgVerbosity, edgeEffect_reset hi hr⟩)
    | false =>
      cases hv : e.sValid with
      | true => exact .inr (.inr ⟨rest, e, edgeEffect_sample hi hr hv⟩)
      | false => exact .inl ⟨rest, by simp [edgeEffect, hi, hr, hv, holdEdge]⟩

/-- R73, R89: the timestamp that a step reads fits the port. -/
theorem portTime_lt (e : Edge) (s : State) : portTime e s < 2 ^ s.params.tsW :=
  Nat.mod_lt _ (Nat.two_pow_pos _)

/-! ## The record of a closed transaction -/

theorem commandRecord_decodeRead (sp : Span) (args miso : List Byte) :
    ∃ p, commandRecord (decodeRead sp args miso) = some ⟨sp, p⟩ := by
  unfold decodeRead
  split
  · exact ⟨_, rfl⟩
  · split_ifs <;> exact ⟨_, rfl⟩
  · exact ⟨_, rfl⟩

theorem commandRecord_decodeWrite (sp : Span) (args : List Byte) :
    ∃ p, commandRecord (decodeWrite sp args) = some ⟨sp, p⟩ := by
  unfold decodeWrite
  split
  · split_ifs <;> exact ⟨_, rfl⟩
  · exact ⟨_, rfl⟩

theorem commandRecord_decodeFifo (sp : Span) (miso : List Byte) :
    ∃ p, commandRecord (decodeFifo sp miso) = some ⟨sp, p⟩ := by
  unfold decodeFifo
  split <;> exact ⟨_, rfl⟩

/-- R181, R182: every transaction decodes to a command row, whose record carries the transaction's own times. -/
theorem commandRecord_decodeCommand (mosi miso : List Byte) (sp : Span) :
    ∃ p, commandRecord (decodeCommand mosi miso sp) = some ⟨sp, p⟩ := by
  unfold decodeCommand
  split
  · exact ⟨_, rfl⟩
  · split_ifs
    · exact commandRecord_decodeRead sp _ miso
    · exact commandRecord_decodeWrite sp _
    · exact commandRecord_decodeFifo sp miso
    · exact ⟨_, rfl⟩

/-- R104, R164: after the previous transaction was closed, the record output is what it was or carries the times of that
transaction. -/
theorem closePrevious_recOut (tLast : Option Nat) (s : State) :
    (closePrevious tLast s).recOut = s.recOut ∨
      ∃ t p, tLast = some t ∧ (closePrevious tLast s).recOut = some ⟨⟨s.transactionStartTime, t⟩, p⟩ := by
  rcases closePrevious_cases tLast s with h | ⟨_, t, ht, h⟩
  · exact .inl (by rw [h])
  · rw [h]
    cases he : txnEmpty s with
    | true => exact .inl (by rw [consume_deassert_empty he]; rfl)
    | false =>
      obtain ⟨p, hp⟩ := commandRecord_decodeCommand s.mosiBytes s.misoBytes ⟨s.transactionStartTime, t⟩
      rw [consume_deassert he, runCommand_of_record hp]
      simp only [State.closeTransaction_recOut, State.putRecord_recOut]
      split_ifs
      · exact .inr ⟨t, p, ht, rfl⟩
      · exact .inl rfl

/-- The record output keeps its widths (R83) when the previous transaction is closed at a time that fits. -/
theorem closePrevious_recOut_fits {tLast : Option Nat} {s : State}
    (hstart : s.transactionStartTime < 2 ^ s.params.tsW) (hlast : tLast.all (fits s.params.tsW) = true)
    (hrec : s.recOut.all (fun r => r.span.wellFormed s.params) = true) :
    (closePrevious tLast s).recOut.all (fun r => r.span.wellFormed s.params) = true := by
  rcases closePrevious_recOut tLast s with h | ⟨t, p, rfl, h⟩
  · rwa [h]
  · have ht : t < 2 ^ s.params.tsW := of_decide_eq_true hlast
    simp [h, Span.wellFormed, fits, hstart, ht]

/-! ## The hook (R6, R135) -/

/-- Every point that the hook answers is a `CC_W`-bit number. -/
theorem quadPoint_lt {P : Params} (hP : P.Wf) {b : Byte} {p : Nat} (h : quadPoint P b = some p) : p < 2 ^ P.ccW := by
  obtain ⟨_, _, _, htrig⟩ := hP
  obtain ⟨e, he, rfl⟩ := Option.map_eq_some_iff.1 h
  simpa [fits] using List.all_eq_true.1 htrig e (List.mem_of_find?_eq_some he)

theorem quadPoint_of_no_entry {P : Params} (h : P.quadTrigger = []) (b : Byte) : quadPoint P b = none := by
  simp [quadPoint, h]

/-! ## State updates -/

section updates
variable {s : State}

theorem State.Inv.takeEdge (hs : s.Inv) (rest : List Edge) : (s.takeEdge rest).Inv := hs

theorem State.Inv.setShifts (hs : s.Inv) (m r : Byte) : (s.setShifts m r).Inv := hs

theorem State.Inv.setQuadShift (hs : s.Inv) (q : Byte) : (s.setQuadShift q).Inv := hs

theorem State.Inv.clearOutputs (hs : s.Inv) : s.clearOutputs.Inv := by
  obtain ⟨hwf, ⟨hgap, hlast, hcount, hclock, hqsp, hstart, _⟩, hpair, hagree, _, hrest⟩ := hs
  exact ⟨hwf, ⟨hgap, hlast, hcount, hclock, hqsp, hstart, rfl⟩, hpair, hagree, by simp, hrest⟩

/-- R102: the threshold only falls. -/
theorem State.Inv.updateThreshold (hs : s.Inv) (ts : Nat) : (s.updateThreshold ts).Inv := by
  obtain ⟨hwf, ⟨hgap, hwidths⟩, hpair, hagree, hout, hinit, hrest⟩ := hs
  have hle := thresholdOf_le ts s
  exact ⟨hwf, ⟨hle.trans_lt hgap, hwidths⟩, hpair, hagree, hout, hle.trans hinit, hrest⟩

theorem State.Inv.setLastSample (hs : s.Inv) {ts : Nat} (hts : ts < 2 ^ s.params.tsW) : (s.setLastSample ts).Inv := by
  obtain ⟨hwf, ⟨hgap, _, hwidths⟩, hpair, ⟨hopen, _⟩, hrest⟩ := hs
  exact ⟨hwf, ⟨hgap, by simpa [fits] using hts, hwidths⟩, hpair, ⟨hopen, fun _ => rfl⟩, hrest⟩

theorem State.Inv.setClock (hs : s.Inv) {c : Nat} (hc : c < 2 ^ s.params.ccW) : (s.setClock c).Inv := by
  obtain ⟨hwf, ⟨hgap, hlast, hcount, _, hwidths⟩, hrest⟩ := hs
  exact ⟨hwf, ⟨hgap, hlast, hcount, hc, hwidths⟩, hrest⟩

/-- R135: the switch point is kept or becomes a point of the hook. -/
theorem State.Inv.captureCommand (hs : s.Inv) (b : Byte) : (s.captureCommand b).Inv := by
  obtain ⟨hwf, ⟨hgap, hlast, hcount, hclock, hqsp, hwidths⟩, hpair, hagree, hout, hinit, hmode, hcont, hhook⟩ := hs
  refine ⟨hwf, ⟨hgap, hlast, hcount, hclock, ?_, hwidths⟩, hpair, hagree, hout, hinit, hmode, hcont, ?_⟩
  · rw [State.captureCommand_quadSwitchPoint]
    cases hp : quadPoint s.params b with
    | none => exact hqsp
    | some p => simpa [fits] using quadPoint_lt hwf hp
  · intro hno
    rw [State.captureCommand_quadSwitchPoint, quadPoint_of_no_entry (P := s.params) hno]
    exact hhook hno

/-- R161: in an open transaction the two sequences grow together. -/
theorem State.Inv.appendPair (hs : s.Inv) (ho : s.txnOpen = true) (m r : Byte) : (s.appendPair m r).Inv := by
  obtain ⟨hwf, hwidths, ⟨_, hlen⟩, hagree, hout, hinit, hmode, _, hhook⟩ := hs
  exact ⟨hwf, hwidths, ⟨by simp [ho], by simp [hlen]⟩, hagree, hout, hinit, hmode, by simp, hhook⟩

/-- R162, R245: an anomaly is reported on an edge without a record. -/
theorem State.Inv.raiseAnomaly (hs : s.Inv) (hr : s.recOut = none) : s.raiseAnomaly.Inv := by
  obtain ⟨hwf, hwidths, hpair, hagree, _, hrest⟩ := hs
  exact ⟨hwf, hwidths, hpair, hagree, fun _ => ⟨rfl, hr⟩, hrest⟩

/-- R161, R162: a byte pair keeps the invariant, open or orphan, unless an orphan meets a record of the same edge. -/
theorem State.Inv.consume_pair (hs : s.Inv) (hr : s.txnOpen = false → s.recOut = none) (m r : Byte) :
    (consume (.bytePair m r) s).Inv := by
  cases ho : s.txnOpen with
  | true => rw [consume_pair_open ho]; exact hs.appendPair ho m r
  | false => rw [consume_pair_orphan ho]; exact hs.raiseAnomaly (hr ho)

/-- R270: the reset values meet the invariant for every admissible parameter. -/
theorem State.loadReset_inv (hwf : s.params.Wf) (cfg : BitVec 2) : (s.loadReset cfg).Inv := by
  have ⟨_, _, hinit, _⟩ := hwf
  have hpow (w : Nat) : 0 < 2 ^ w := Nat.two_pow_pos w
  exact ⟨hwf, ⟨hinit, rfl, hpow _, hpow _, rfl, hpow _, rfl⟩, ⟨fun _ => ⟨rfl, rfl⟩, rfl⟩, ⟨by simp, by simp⟩,
    nofun, le_rfl, rfl, by simp, fun _ => rfl⟩

end updates

/-! ## The accumulator -/

theorem State.Inv.finishByte {s : State} (hs : s.Inv) (hr : s.txnOpen = false → s.recOut = none) :
    (finishByte s).Inv := by
  refine State.Inv.setShifts ?_ _ _
  split
  · exact (hs.captureCommand _).consume_pair hr _ _
  · exact hs.consume_pair hr _ _

theorem State.Inv.clockSingle {s : State} (hs : s.Inv) (hr : s.txnOpen = false → s.recOut = none) (v : SampleWord) :
    (clockSingle v s).Inv := by
  unfold Machine.clockSingle
  dsimp only
  split
  · exact (hs.setShifts _ _).finishByte hr
  · exact hs.setShifts _ _

theorem State.Inv.clockQuad {s : State} (hs : s.Inv) (hr : s.txnOpen = false → s.recOut = none) (p : Nat)
    (v : SampleWord) : (clockQuad p v s).Inv := by
  unfold Machine.clockQuad
  dsimp only
  split
  · exact ((hs.setQuadShift (shiftNibble s.quadShift (nibbleOf v))).consume_pair hr _ _).setQuadShift _
  · exact hs.setQuadShift _

/-- R130 to R141: a data clock keeps the invariant, given that a record of this edge comes with an open transaction. -/
theorem State.Inv.accumulate {s : State} (hs : s.Inv) (hr : s.txnOpen = false → s.recOut = none) (v : SampleWord) :
    (accumulate v s).Inv := by
  obtain ⟨u, hu, h⟩ : ∃ u : State,
      u.Inv ∧ Machine.accumulate v s = u.setClock (trunc s.params.ccW (s.clockCount + 1)) := by
    rcases accumulate_cases v s with ⟨_, h⟩ | ⟨p, _, _, h⟩
    · exact ⟨_, hs.clockSingle hr v, h⟩
    · exact ⟨_, hs.clockQuad hr p v, h⟩
  obtain ⟨hparams, _⟩ := accumulate_frame v s
  rw [h] at hparams ⊢
  have hp : u.params = s.params := hparams
  exact hu.setClock (by rw [hp]; exact Nat.mod_lt _ (Nat.two_pow_pos _))

/-! ## The detector -/

/-- R105: the saturating count fits its width. -/
theorem countBoundary_lt {s : State} (h : s.transactionCount < 2 ^ s.params.tcW) :
    s.countBoundary.transactionCount < 2 ^ s.params.tcW := by
  have hmax : maxOf s.params.tcW = 2 ^ s.params.tcW - 1 := rfl
  rw [State.countBoundary_transactionCount]
  split_ifs <;> omega

/-- R23, R105: after a boundary the count is positive, since a counter of at least one bit saturates above 0. -/
theorem countBoundary_pos {s : State} (hP : s.params.Wf) : 0 < s.countBoundary.transactionCount := by
  obtain ⟨_, htc, _⟩ := hP
  have : 2 ^ 1 ≤ 2 ^ s.params.tcW := Nat.pow_le_pow_right (by decide) htc
  have hmax : maxOf s.params.tcW = 2 ^ s.params.tcW - 1 := rfl
  rw [State.countBoundary_transactionCount]
  split_ifs <;> omega

/-- R104 to R109: a boundary at a time that fits keeps the invariant when no anomaly is pending. -/
theorem State.Inv.crossBoundary {s : State} {ts : Nat} (hs : s.Inv) (ha : s.anomaly = false)
    (hl : s.lastSampleTime.isSome = true) (hts : ts < 2 ^ s.params.tsW) :
    (crossBoundary s.lastSampleTime ts s).Inv := by
  obtain ⟨hwf, ⟨hgap, hlast, hcount, hclock, hqsp, hstart, hrec⟩, _, _, _, hinit, hmode, _, hhook⟩ := hs
  have hrec' := closePrevious_recOut_fits hstart hlast hrec
  have hlt := countBoundary_lt hcount
  have hpos := countBoundary_pos hwf
  cases hc : s.continuousMode with
  | false =>
    rw [crossBoundary_restart hc]
    exact ⟨hwf, ⟨hgap, hlast, hlt, Nat.two_pow_pos _, rfl, hts, hrec'⟩, ⟨by simp, rfl⟩,
      ⟨⟨fun _ => hpos, fun _ => rfl⟩, fun _ => hl⟩, by simp [ha], hinit, hmode, by simp [hc], fun _ => rfl⟩
  | true =>
    have h8 : Config.resumeClock < 2 ^ s.params.ccW :=
      (by decide : Config.resumeClock < 2 ^ 4).trans_le (Nat.pow_le_pow_right (by decide) hwf.1)
    rw [crossBoundary_resume hc]
    exact ⟨hwf, ⟨hgap, hlast, hlt, h8, hqsp, hts, hrec'⟩, ⟨by simp, rfl⟩,
      ⟨⟨fun _ => hpos, fun _ => rfl⟩, fun _ => hl⟩, by simp [ha], hinit, hmode, by simp, hhook⟩

/-- R100 to R109: the detector keeps the invariant at the start of a step, where the outputs are clear. -/
theorem State.Inv.detect {s : State} {ts : Nat} (hs : s.Inv) (ha : s.anomaly = false) (hts : ts < 2 ^ s.params.tsW)
    (v : SampleWord) : (detect v ts s).Inv := by
  cases hb : isBoundary v ts s with
  | false => rw [detect_no_boundary hb]; exact (hs.updateThreshold ts).setLastSample hts
  | true =>
    have hl : s.lastSampleTime.isSome = true := by
      by_contra hn
      simp [isBoundary_of_no_last (Option.not_isSome_iff_eq_none.1 hn)] at hb
    have hx := (hs.updateThreshold ts).crossBoundary ha hl hts
    obtain ⟨hparams, _⟩ := crossBoundary_frame s.lastSampleTime ts (s.updateThreshold ts)
    rw [detect_boundary hb]
    exact hx.setLastSample (by rw [State.updateThreshold_lastSampleTime, hparams]; exact hts)

/-- R104, R160: a record that the detector outputs comes with the next transaction open. -/
theorem detect_recOut_of_closed {s : State} {v : SampleWord} {ts : Nat} (hr : s.recOut = none)
    (ho : (detect v ts s).txnOpen = false) : (detect v ts s).recOut = none := by
  cases hb : isBoundary v ts s with
  | false => rw [detect_no_boundary hb]; exact hr
  | true =>
    obtain ⟨hopen, _⟩ := crossBoundary_opens s.lastSampleTime ts (s.updateThreshold ts)
    rw [detect_boundary hb, State.setLastSample_txnOpen, hopen] at ho
    exact absurd ho (by decide)

/-! ## One edge -/

/-- R227: an accepted sample whose time fits keeps the invariant. -/
theorem State.Inv.acceptSample {s : State} {ts : Nat} (hs : s.Inv) (hts : ts < 2 ^ s.params.tsW) (v : SampleWord) :
    (acceptSample v ts s).Inv := by
  have hd : (Machine.detect v ts s.clearOutputs).Inv := hs.clearOutputs.detect rfl hts v
  cases hv : csFlag v with
  | true => simpa only [Machine.acceptSample, hv, if_true] using hd
  | false => rw [acceptSample_active hv]; exact hd.accumulate (detect_recOut_of_closed rfl) v

theorem State.Inv.edgeEffect {s : State} (hs : s.Inv) : (edgeEffect s).Inv := by
  rcases edgeEffect_cases s with ⟨rest, h⟩ | ⟨_, rest, cfg, h⟩ | ⟨rest, e, h⟩ <;> rw [h]
  · exact (hs.takeEdge rest).clearOutputs
  · exact State.loadReset_inv hs.1 cfg
  · exact (hs.takeEdge rest).acceptSample (portTime_lt e s) e.sValue

/-- Settles O55: each edge is an operation that keeps the invariant (`edgeEffect_cases`). -/
theorem everyEdgeKeepsTheInvariant : Obligations.EveryEdgeKeepsTheInvariant := by
  intro s t hs hstep
  rw [← (step_eq_iff s t).1 hstep]
  exact hs.edgeEffect

/-- Settles O53: an edge without reset holds the state or accepts a sample, which lowers the threshold to
`thresholdOf` and sets the sample time. -/
theorem thresholdNeverIncreases : Obligations.ThresholdNeverIncreases := by
  intro s t hno hstep
  rw [← (step_eq_iff s t).1 hstep]
  rcases edgeEffect_cases s with ⟨rest, h⟩ | ⟨hreset, _⟩ | ⟨rest, e, h⟩
  · rw [h]; exact ⟨le_rfl, id⟩
  · rw [hno] at hreset; exact absurd hreset (by decide)
  · obtain ⟨hgap, hlast⟩ := acceptSample_threshold_time e.sValue (portTime e s) (s.takeEdge rest)
    rw [h, hgap, hlast]
    exact ⟨thresholdOf_le _ (s.takeEdge rest), fun _ => rfl⟩

/-- Settles O54: the reset state is what a reset edge loads at the default parameters. -/
theorem resetMeetsTheInvariant : Obligations.ResetMeetsTheInvariant :=
  State.loadReset_inv (s := State.reset) (by decide) 0

end Sys2Proof.Machine
end

section
/-!
PROOFS. The bounded buffer (spec/20_memory.md R52): having the same bounded form is a simulation. The interpreter reads
nothing beyond it, every other operation commutes with the truncation, and so does each edge.
-/
namespace Sys2Proof.Machine

/-! ## Runs as iteration -/

/-- R240: a run of any length completes, in the state that iterating one edge gives. -/
theorem run_eq_iterate (n : Nat) (s : State) : Sys2Proof.core.run n s = .next (edgeEffect^[n] s) := by
  induction n generalizing s with
  | zero => exact run_zero s
  | succ n ih => rw [run_succ, ih, Function.iterate_succ_apply]

/-- The records of a run, one edge at a time. -/
theorem recordsOut_succ (n : Nat) (s : State) :
    recordsOut (n + 1) s = (edgeEffect s).recOut.toList ++ recordsOut n (edgeEffect s) := by
  rw [recordsOut, steps_succ, List.filterMap_cons]
  cases (edgeEffect s).recOut <;> rfl

/-! ## The bounded form (R52): what the interpreter reads of it -/

/-- R181: no entry after index 2 is read, and no length above 3 is told from 3. -/
theorem decodeCommand_take_three (mosi miso : List Byte) (sp : Span) :
    decodeCommand (mosi.take 3) (miso.take 3) sp = decodeCommand mosi miso sp := by
  have hread (args : List Byte) : decodeRead sp (args.take 2) (miso.take 3) = decodeRead sp args miso := by
    rcases args with _ | ⟨a, args⟩
    · rfl
    · rcases miso with _ | ⟨_, _ | ⟨_, _ | ⟨v, miso⟩⟩⟩ <;> rfl
  have hwrite (args : List Byte) : decodeWrite sp (args.take 2) = decodeWrite sp args := by
    rcases args with _ | ⟨_, _ | ⟨w, args⟩⟩ <;> rfl
  have hfifo : decodeFifo sp (miso.take 3) = decodeFifo sp miso := by
    rcases miso with _ | ⟨_, _ | ⟨v, miso⟩⟩ <;> rfl
  cases mosi with
  | nil => rfl
  | cons c args => simp only [decodeCommand, List.take_succ_cons, hread, hwrite, hfifo]

theorem txnEmpty_bounded (s : State) : txnEmpty s.bounded = txnEmpty s := by
  simp only [txnEmpty, State.bounded_mosiBytes, State.bounded_misoBytes]
  cases s.mosiBytes <;> cases s.misoBytes <;> rfl

/-- R104: without a previous sample nothing is closed. -/
theorem closePrevious_none (s : State) : closePrevious none s = s := by
  rcases closePrevious_cases none s with h | ⟨_, _, ht, _⟩
  · exact h
  · exact nomatch ht

/-- Closing the bounded form outputs the same record (R164). -/
theorem closePrevious_bounded_recOut (tLast : Option Nat) (s : State) :
    (closePrevious tLast s.bounded).recOut = (closePrevious tLast s).recOut := by
  rcases Nat.eq_zero_or_pos s.transactionCount with hc | hc
  · rw [closePrevious_first hc, closePrevious_first (s := s.bounded) hc, State.bounded_recOut]
  cases tLast with
  | none => rw [closePrevious_none, closePrevious_none, State.bounded_recOut]
  | some t =>
    rw [closePrevious_of_count hc, closePrevious_of_count (s := s.bounded) hc]
    cases he : txnEmpty s with
    | true =>
      rw [consume_deassert_empty he, consume_deassert_empty ((txnEmpty_bounded s).trans he)]
      rfl
    | false =>
      obtain ⟨p, hp⟩ := commandRecord_decodeCommand s.mosiBytes s.misoBytes ⟨s.transactionStartTime, t⟩
      rw [consume_deassert he, consume_deassert ((txnEmpty_bounded s).trans he), State.bounded_mosiBytes,
        State.bounded_misoBytes, decodeCommand_take_three, State.bounded_transactionStartTime, runCommand_of_record hp,
        runCommand_of_record hp]
      rfl

/-! ## The bounded form (R52): one edge from it -/

/-- Truncating before an append loses nothing that the truncation after it keeps. -/
theorem take_take_append {α : Type} (n : Nat) (l m : List α) : (l.take n ++ m).take n = (l ++ m).take n := by
  rcases le_total n l.length with h | h
  · simp [List.take_append_of_le_length, h]
  · rw [List.take_of_length_le h]

@[simp] theorem State.bounded_bounded (s : State) : s.bounded.bounded = s.bounded := by
  simp [State.bounded]

/-- R104 to R109: a boundary opens an empty transaction, so it leaves nothing of the entries that were dropped. -/
theorem crossBoundary_bounded (tLast : Option Nat) (ts : Nat) (s : State) :
    crossBoundary tLast ts s.bounded = crossBoundary tLast ts s := by
  cases hc : s.continuousMode with
  | false =>
    rw [crossBoundary_restart hc, crossBoundary_restart (s := s.bounded) hc, closePrevious_bounded_recOut]
    rfl
  | true =>
    rw [crossBoundary_resume hc, crossBoundary_resume (s := s.bounded) hc, closePrevious_bounded_recOut]
    rfl

theorem detect_bounded (v : SampleWord) (ts : Nat) (s : State) :
    (detect v ts s.bounded).bounded = (detect v ts s).bounded := by
  have hcongr : isBoundary v ts s.bounded = isBoundary v ts s := isBoundary_congr rfl rfl
  cases hb : isBoundary v ts s with
  | false =>
    rw [detect_no_boundary hb, detect_no_boundary (hcongr.trans hb)]
    exact ((s.updateThreshold ts).setLastSample ts).bounded_bounded
  | true =>
    rw [detect_boundary hb, detect_boundary (hcongr.trans hb)]
    exact congrArg (fun u => (State.setLastSample ts u).bounded)
      (crossBoundary_bounded s.lastSampleTime ts (s.updateThreshold ts))

theorem clockSingle_bounded (v : SampleWord) (s : State) :
    (clockSingle v s.bounded).bounded = (clockSingle v s).bounded := by
  rw [clockSingle_eq, clockSingle_eq]
  cases ho : s.txnOpen <;> by_cases h : s.clockCount % 8 = 7 <;>
    simp [h, ho, State.bounded, take_take_append]

theorem clockQuad_bounded (p : Nat) (v : SampleWord) (s : State) :
    (clockQuad p v s.bounded).bounded = (clockQuad p v s).bounded := by
  rw [clockQuad_eq, clockQuad_eq]
  cases ho : s.txnOpen <;> by_cases h : s.clockCount % 2 = p % 2 <;>
    simp [h, ho, State.bounded, take_take_append]

theorem accumulate_bounded (v : SampleWord) (s : State) :
    (accumulate v s.bounded).bounded = (accumulate v s).bounded := by
  rcases accumulate_cases v s with ⟨hsingle, h⟩ | ⟨p, hq, hp, h⟩
  · rw [h, accumulate_single (s := s.bounded) hsingle]
    exact congrArg (State.setClock _) (clockSingle_bounded v s)
  · rw [h, accumulate_quad (s := s.bounded) hq hp]
    exact congrArg (State.setClock _) (clockQuad_bounded p v s)

theorem acceptSample_bounded (v : SampleWord) (ts : Nat) (s : State) :
    (acceptSample v ts s.bounded).bounded = (acceptSample v ts s).bounded := by
  have hd : (detect v ts s.bounded.clearOutputs).bounded = (detect v ts s.clearOutputs).bounded :=
    detect_bounded v ts s.clearOutputs
  cases hv : csFlag v with
  | true => simpa only [acceptSample, hv, if_true] using hd
  | false =>
    rw [acceptSample_active hv, acceptSample_active hv, ← accumulate_bounded, hd, accumulate_bounded]

/-- One edge from the bounded form leads to the same bounded form. -/
theorem edgeEffect_bounded (s : State) : (edgeEffect s.bounded).bounded = (edgeEffect s).bounded := by
  cases hi : s.input with
  | nil => simp only [edgeEffect, State.bounded_input, hi]; exact (holdEdge (s.takeEdge [])).bounded_bounded
  | cons e rest =>
    simp only [edgeEffect, State.bounded_input, hi]
    split_ifs
    · rfl
    · exact acceptSample_bounded e.sValue (portTime e s) (s.takeEdge rest)
    · exact (holdEdge (s.takeEdge rest)).bounded_bounded

/-- States of the same bounded form take every edge to states of the same bounded form. -/
theorem edgeEffect_bounded_congr {s u : State} (h : u.bounded = s.bounded) :
    (edgeEffect u).bounded = (edgeEffect s).bounded := by
  rw [← edgeEffect_bounded u, h, edgeEffect_bounded]

/-- The simulation over a whole run: the same bounded form at its end, and the same records along it. -/
theorem run_bounded_congr (n : Nat) {s u : State} (h : u.bounded = s.bounded) :
    (edgeEffect^[n] u).bounded = (edgeEffect^[n] s).bounded ∧ recordsOut n u = recordsOut n s := by
  induction n generalizing s u with
  | zero => exact ⟨h, rfl⟩
  | succ n ih =>
    have hedge := edgeEffect_bounded_congr h
    have hrec : (edgeEffect u).recOut = (edgeEffect s).recOut := by
      rw [← State.bounded_recOut, hedge, State.bounded_recOut]
    obtain ⟨hend, hrecs⟩ := ih hedge
    exact ⟨hend, by rw [recordsOut_succ, recordsOut_succ, hrec, hrecs]⟩

/-- Settles O58: having the same bounded form is a simulation, and a state has the bounded form of its own bounded
form. -/
theorem boundedBufferIsEnough : Obligations.BoundedBufferIsEnough := by
  intro n s t hrun
  obtain rfl : edgeEffect^[n] s = t := Host.Outcome.next.inj ((run_eq_iterate n s).symm.trans hrun)
  obtain ⟨hend, hrecs⟩ := run_bounded_congr n s.bounded_bounded
  exact ⟨_, run_eq_iterate n s.bounded, hend, hrecs⟩

end Sys2Proof.Machine
end

section
/-!
PROOFS. Active samples within a transaction (spec/20_memory.md): eight single-wire samples make one byte pair (R53), and
two quad-wire samples make one byte (R54).
-/
namespace Sys2Proof.Machine

/-! ## One active sample without a boundary -/

/-- An accepted sample is a boundary by the test of R103 on the state before the edge. -/
theorem takesBoundary_sample {s : State} {e : Edge} {rest : List Edge} (hi : s.input = e :: rest) (hr : e.rst = false)
    (hv : e.sValid = true) : takesBoundary s = isBoundary e.sValue (portTime e s) s := by
  simp [takesBoundary, hi, hr, hv]

/-- The state in which an active sample without a boundary meets the accumulator: the outputs are clear, and the
detector has written its threshold and the sample time (R102, R107). -/
def State.afterQuietDetector (rest : List Edge) (ts : Nat) (s : State) : State :=
  ((s.takeEdge rest).clearOutputs.updateThreshold ts).setLastSample ts

/-- R227: without a boundary the edge of an active sample is one data clock. -/
theorem edgeEffect_active_quiet {s : State} {e : Edge} {rest : List Edge} (hi : s.input = e :: rest)
    (hr : e.rst = false) (hv : e.sValid = true) (hcs : e.sValue.getLsbD 15 = false) (hb : takesBoundary s = false) :
    edgeEffect s = accumulate e.sValue (s.afterQuietDetector rest (portTime e s)) := by
  rw [takesBoundary_sample hi hr hv] at hb
  have hb' : isBoundary e.sValue (portTime e s) (s.takeEdge rest).clearOutputs = false :=
    (isBoundary_congr rfl rfl).trans hb
  rw [edgeEffect_sample hi hr hv, acceptSample_active hcs, detect_no_boundary hb']
  rfl

/-! ## Data clocks of an open transaction, by their place in the byte -/

section clocks
variable {v : SampleWord} {p : Nat} {s : State}

/-- R131: inside a byte a single-wire clock only shifts. -/
theorem clockSingle_inside (h : s.clockCount % 8 ≠ 7) :
    clockSingle v s = s.setShifts (shiftBit s.mosiShift (mosiBit v)) (shiftBit s.misoShift (misoBit v)) := by
  rw [clockSingle_eq, if_neg h]
  rfl

/-- R133, R139, R161: the last single-wire clock of a byte appends the pair and clears the accumulators. -/
theorem clockSingle_last (h : s.clockCount % 8 = 7) (ho : s.txnOpen = true) :
    (clockSingle v s).mosiBytes = s.mosiBytes ++ [shiftBit s.mosiShift (mosiBit v)] ∧
      (clockSingle v s).misoBytes = s.misoBytes ++ [shiftBit s.misoShift (misoBit v)] ∧
      (clockSingle v s).mosiShift = 0x00#8 ∧ (clockSingle v s).misoShift = 0x00#8 := by
  rw [clockSingle_eq, if_pos h, ho]
  exact ⟨rfl, rfl, rfl, rfl⟩

/-- R136: the first quad-wire clock of a byte only shifts. -/
theorem clockQuad_first (h : s.clockCount % 2 = p % 2) :
    clockQuad p v s = s.setQuadShift (shiftNibble s.quadShift (nibbleOf v)) := by
  rw [clockQuad_eq, if_neg (not_not.2 h)]
  rfl

/-- R137, R161: the second quad-wire clock of a byte appends it to both sequences and clears the accumulator. -/
theorem clockQuad_second (h : s.clockCount % 2 ≠ p % 2) (ho : s.txnOpen = true) :
    clockQuad p v s =
      (s.appendPair (shiftNibble s.quadShift (nibbleOf v)) (shiftNibble s.quadShift (nibbleOf v))).setQuadShift
        0x00#8 := by
  simp [clockQuad_eq, h, ho, State.appendPair, State.setQuadShift]

end clocks

/-! ## Shifted bits as a number -/

theorem shiftBit_eq_ofNat (b : Byte) (x : Bool) : shiftBit b x = BitVec.ofNat 8 (2 * b.toNat + x.toNat) := by
  cases x <;> revert b <;> decide

/-- One more bit at the right of a binary number: the fold of `byteOfBits`. -/
def pushBit (n : Nat) (b : Bool) : Nat := 2 * n + b.toNat

theorem byteOfBits_eq (bits : List Bool) : byteOfBits bits = BitVec.ofNat 8 (bits.foldl pushBit 0) := rfl

theorem shiftBit_ofNat (n : Nat) (b : Bool) : shiftBit (BitVec.ofNat 8 n) b = BitVec.ofNat 8 (pushBit n b) := by
  apply BitVec.eq_of_toNat_eq
  simp only [shiftBit_eq_ofNat, pushBit, BitVec.toNat_ofNat]
  omega

theorem foldl_shiftBit_ofNat (bits : List Bool) (n : Nat) :
    bits.foldl shiftBit (BitVec.ofNat 8 n) = BitVec.ofNat 8 (bits.foldl pushBit n) := by
  induction bits generalizing n with
  | nil => rfl
  | cons b bits ih => rw [List.foldl_cons, List.foldl_cons, shiftBit_ofNat, ih]

/-- What a number held before is moved up by one place per bit. -/
theorem foldl_pushBit (bits : List Bool) (n : Nat) :
    bits.foldl pushBit n = 2 ^ bits.length * n + bits.foldl pushBit 0 := by
  induction bits generalizing n with
  | nil => simp
  | cons b bits ih =>
    rw [List.foldl_cons, List.foldl_cons, ih, ih (pushBit 0 b), List.length_cons, pow_succ]
    simp only [pushBit]
    ring

/-- R132: eight shifts push out whatever the accumulator held. -/
theorem foldl_shiftBit_eight {bits : List Bool} (h : bits.length = 8) (b : Byte) :
    bits.foldl shiftBit b = byteOfBits bits := by
  have hb : b = BitVec.ofNat 8 b.toNat := by simp
  rw [hb, foldl_shiftBit_ofNat, foldl_pushBit, h, byteOfBits_eq]
  apply BitVec.eq_of_toNat_eq
  rw [BitVec.toNat_ofNat, BitVec.toNat_ofNat, Nat.mul_add_mod]

/-! ## Eight single-wire samples (R53) -/

/-- The next edges from `s` present the active samples `xs`, each a single-wire clock and none a boundary. -/
structure SingleWireSamples (xs : List (SampleWord × Nat)) (rest : List Edge) (s : State) : Prop where
  input : s.input = sampleEdges xs ++ rest
  active : ∀ x ∈ xs, x.1.getLsbD 15 = false
  quiet : ∀ st ∈ steps xs.length s, takesBoundary st.1 = false ∧ isSingleWire st.1 = true

section samples
variable {x : SampleWord × Nat} {xs : List (SampleWord × Nat)} {rest : List Edge} {s : State}

/-- R131, R141: the first of the samples is one single-wire clock, and the clock index counts it. -/
theorem SingleWireSamples.edgeEffect_eq (h : SingleWireSamples (x :: xs) rest s) :
    ∃ ts, edgeEffect s =
      (clockSingle x.1 (s.afterQuietDetector (sampleEdges xs ++ rest) ts)).setClock
        (trunc s.params.ccW (s.clockCount + 1)) := by
  obtain ⟨hb, hsw⟩ := h.quiet (s, edgeEffect s) (by simp [steps_succ])
  have hcs : x.1.getLsbD 15 = false := h.active x (by simp)
  exact ⟨_, (edgeEffect_active_quiet h.input rfl rfl hcs hb).trans (accumulate_single hsw)⟩

theorem SingleWireSamples.tail (h : SingleWireSamples (x :: xs) rest s) : SingleWireSamples xs rest (edgeEffect s) where
  input := by
    obtain ⟨_, _, _, hinput, _⟩ :=
      acceptSample_frame x.1 (portTime (sampleEdge x.1 x.2) s) (s.takeEdge (sampleEdges xs ++ rest))
    rw [edgeEffect_sample h.input rfl rfl]
    exact hinput
  active := fun y hy => h.active y (by simp [hy])
  quiet := fun st hst => h.quiet st (by rw [List.length_cons, steps_succ]; exact List.mem_cons_of_mem _ hst)

/-- R140: keeping the clock index to `CC_W` bits, of which there are at least 4, does not disturb its place in the
byte. -/
theorem trunc_mod_eight {w : Nat} (hw : 4 ≤ w) (n : Nat) : trunc w n % 8 = n % 8 :=
  Nat.mod_mod_of_dvd n (pow_dvd_pow 2 (by omega : 3 ≤ w))

/-- R131, R133, R139: the samples that are left in a byte shift their bits in, and the last of them appends the pair and
clears the accumulators. -/
theorem SingleWireSamples.completes_byte (h : SingleWireSamples xs rest s) (ho : s.txnOpen = true)
    (hw : 4 ≤ s.params.ccW) (hc : s.clockCount % 8 + xs.length = 8) :
    (edgeEffect^[xs.length] s).mosiBytes =
        s.mosiBytes ++ [(xs.map (fun x => x.1.getLsbD 0)).foldl shiftBit s.mosiShift] ∧
      (edgeEffect^[xs.length] s).misoBytes =
        s.misoBytes ++ [(xs.map (fun x => x.1.getLsbD 1)).foldl shiftBit s.misoShift] ∧
      (edgeEffect^[xs.length] s).mosiShift = 0x00#8 ∧ (edgeEffect^[xs.length] s).misoShift = 0x00#8 := by
  induction xs generalizing s with
  | nil => simp only [List.length_nil] at hc; omega
  | cons x xs ih =>
    obtain ⟨ts, hedge⟩ := h.edgeEffect_eq
    rw [List.length_cons] at hc ⊢
    rw [Function.iterate_succ_apply]
    by_cases h7 : s.clockCount % 8 = 7
    · obtain rfl : xs = [] := List.length_eq_zero_iff.1 (by omega)
      have hlast := clockSingle_last (v := x.1) (s := s.afterQuietDetector (sampleEdges [] ++ rest) ts) h7 ho
      rw [hedge]
      exact hlast
    · rw [clockSingle_inside (s := s.afterQuietDetector (sampleEdges xs ++ rest) ts) h7] at hedge
      have hclock : (edgeEffect s).clockCount % 8 = (s.clockCount + 1) % 8 := by
        rw [hedge]; exact trunc_mod_eight hw _
      obtain ⟨hm, hr, hshifts⟩ :=
        ih h.tail (by rw [hedge]; exact ho) (by rw [hedge]; exact hw) (by rw [hclock]; omega)
      refine ⟨?_, ?_, hshifts⟩
      · rw [hm, hedge]; rfl
      · rw [hr, hedge]; rfl

end samples

/-- Settles O45: from a multiple of 8 on, the eight samples are a whole byte (`SingleWireSamples.completes_byte`), and
eight shifts leave nothing of the old accumulators. -/
theorem eightSingleWireClocksMakeOneByte : Obligations.EightSingleWireClocksMakeOneByte := by
  intro s xs rest hinput hlen ho hw _ hc hactive hquiet
  have h : SingleWireSamples xs rest s := ⟨hinput, hactive, by rwa [hlen]⟩
  obtain ⟨hm, hr, hshifts⟩ := h.completes_byte ho hw (by omega)
  rw [foldl_shiftBit_eight (by rw [List.length_map, hlen])] at hm hr
  rw [hlen] at hm hr hshifts
  exact ⟨_, run_eq_iterate 8 s, hm, hr, hshifts⟩

/-! ## Two quad-wire samples (R54) -/

/-- R136: two nibbles push out whatever the accumulator held. -/
theorem shiftNibble_shiftNibble (b : Byte) (n1 n2 : Nibble) : shiftNibble (shiftNibble b n1) n2 = n1 ++ n2 := by
  apply BitVec.eq_of_getLsbD_eq
  intro i hi
  simp only [shiftNibble, BitVec.getLsbD_setWidth, BitVec.getLsbD_append]
  by_cases h : i < 4
  · simp [h, hi]
  · have h4 : i - 4 < 4 := by omega
    have h8 : i - 4 < 8 := by omega
    simp [h, hi, h4, h8]

/-- R136, R141: from the switch point on, an active sample without a boundary is one quad-wire clock. -/
theorem edgeEffect_quad {s : State} {e : Edge} {rest : List Edge} {p : Nat} (hi : s.input = e :: rest)
    (hr : e.rst = false) (hv : e.sValid = true) (hcs : e.sValue.getLsbD 15 = false) (hb : takesBoundary s = false)
    (hq : s.quadSwitchPoint = some p) (hp : p ≤ s.clockCount) :
    edgeEffect s =
      (clockQuad p e.sValue (s.afterQuietDetector rest (portTime e s))).setClock
        (trunc s.params.ccW (s.clockCount + 1)) :=
  (edgeEffect_active_quiet hi hr hv hcs hb).trans (accumulate_quad hq hp)

/-- Settles O46: the first nibble is only shifted in (R136), the second completes the byte (R137). -/
theorem twoQuadClocksMakeOneByte : Obligations.TwoQuadClocksMakeOneByte := by
  intro s e1 e2 rest p hi hr1 hr2 hv1 hv2 hcs1 hcs2 hquiet ho hq hp heven hwrap
  rw [steps_succ, steps_succ] at hquiet
  have hb1 : takesBoundary s = false := hquiet (s, _) List.mem_cons_self
  have hb2 : takesBoundary (edgeEffect s) = false :=
    hquiet (edgeEffect s, _) (List.mem_cons_of_mem _ List.mem_cons_self)
  have hfirst := edgeEffect_quad hi hr1 hv1 hcs1 hb1 hq hp
  rw [clockQuad_first (s := s.afterQuietDetector (e2 :: rest) _) (show s.clockCount % 2 = p % 2 by omega)] at hfirst
  have hclock : (edgeEffect s).clockCount = s.clockCount + 1 := by rw [hfirst]; exact Nat.mod_eq_of_lt hwrap
  have hsecond := edgeEffect_quad (by rw [hfirst]; rfl) hr2 hv2 hcs2 hb2 (by rw [hfirst]; exact hq) (by omega)
  rw [clockQuad_second (s := (edgeEffect s).afterQuietDetector rest _)
    (show (edgeEffect s).clockCount % 2 ≠ p % 2 by omega) (by rw [hfirst]; exact ho)] at hsecond
  have hbyte : shiftNibble (edgeEffect s).quadShift (nibbleOf e2.sValue) =
      e1.sValue.extractLsb' 0 4 ++ e2.sValue.extractLsb' 0 4 := by
    rw [hfirst]; exact shiftNibble_shiftNibble s.quadShift _ _
  have hbytes : (edgeEffect s).mosiBytes = s.mosiBytes ∧ (edgeEffect s).misoBytes = s.misoBytes := by
    rw [hfirst]; exact ⟨rfl, rfl⟩
  obtain ⟨hmosi, hmiso⟩ := hbytes
  refine ⟨edgeEffect (edgeEffect s), run_eq_iterate 2 s, ?_, ?_, ?_⟩ <;> rw [hsecond]
  · rfl
  · rw [← hmosi, ← hbyte]; rfl
  · rw [← hmiso, ← hbyte]; rfl

end Sys2Proof.Machine
end

section
/-!
PROOFS. The decoder and the encoder (spec/30_encoding.md): the encoding of every row is decoded back, the sample decoder
loses nothing, an accepted edge and a consumed marker run their decoded rows, the ignored bits of a sample change
nothing, and the output signals mirror their state.
-/
namespace Sys2Proof

/-! ## Commands: the rows that a condition on a byte selects (R78, R184, R186, R189) -/

/-- R184: a read with its value byte is a register read at every address that is not a device-ID address. -/
theorem decodeRead_register {a : Byte} (ha : isDevIdAddr a = false) (sp : Span) (v b c : Byte) (args miso : List Byte) :
    decodeRead sp (a :: args) (b :: c :: v :: miso) = .rdReg sp a v := by
  simp only [isDevIdAddr, Bool.or_eq_false_iff, beq_eq_false_iff_ne] at ha
  obtain ⟨⟨h0, h1⟩, h2⟩ := ha
  simp only [decodeRead, h0, h1, h2, if_false]

/-- R186: a write with its value byte is a register write at every address that is not an offset register. -/
theorem decodeWrite_register {a : Byte} (ha : isOffsetAddr a = false) (sp : Span) (w : Byte) (args : List Byte) :
    decodeWrite sp (a :: w :: args) = .wrReg sp a w := by
  simp only [isOffsetAddr, Bool.or_eq_false_iff, beq_eq_false_iff_ne] at ha
  obtain ⟨⟨hx, hy⟩, hz⟩ := ha
  simp only [decodeWrite, hx, hy, hz, if_false]

/-- R189: every other command code is unknown, whatever bytes follow. -/
theorem decodeCommand_unknown {c : Byte} (hc : isCommandCode c = false) (args miso : List Byte) (sp : Span) :
    decodeCommand (c :: args) miso sp = .errUnknown sp c := by
  simp only [isCommandCode, Bool.or_eq_false_iff, beq_eq_false_iff_ne] at hc
  obtain ⟨⟨hwrite, hread⟩, hfifo⟩ := hc
  simp only [decodeCommand, hwrite, hread, hfifo, if_false]

/-! ## Samples (R70, R74) -/

/-- R74: a word with CS = 1 is idle in either mode. -/
theorem decodeSample_idle (quad : Bool) (data : SampleData) (ts : Nat) :
    decodeSample quad (sampleWord true data) ts = .smpIdle data ts := by
  simp [decodeSample]

/-- R74: a word with CS = 0 is active, and the mode bit names its row. -/
theorem decodeSample_active (quad : Bool) (data : SampleData) (ts : Nat) :
    decodeSample quad (sampleWord false data) ts = if quad then .smpActive4w data ts else .smpActive1w data ts := by
  simp [decodeSample]

/-- R70: the row of a sample holds the whole word and its time; the encoder's mode bit is that of an active sample. -/
theorem encode_decodeSample (quad : Bool) (v : SampleWord) (ts : Nat) :
    encode (decodeSample quad v ts) = .sample (quad && !csFlag v) v ts := by
  have hword := sampleWord_eta v
  cases hcs : csFlag v <;> rw [hcs] at hword
  · cases quad <;> simp [decodeSample, hcs, encode, hword]
  · simp [decodeSample, hcs, encode, hword]

/-! ## Markers (R75) -/

section markers
variable (o e : Bool) (t : Nat) (m r : Byte)

theorem decode_marker_assert : decode (.marker o e 0b00#2 t m r) = .ok (.mkAssert t) := rfl

theorem decode_marker_bytePair :
    decode (.marker o e 0b01#2 t m r) = .ok (if o then .mkBytepairOpen m r else .mkBytepairOrphan m r) := by
  cases o <;> rfl

theorem decode_marker_deassert :
    decode (.marker o e 0b10#2 t m r) = .ok (if e then .mkDeassertEmpty t else .mkDeassert t) := by
  cases e <;> rfl

theorem decode_marker_reserved : decode (.marker o e 0b11#2 t m r) = .error .reservedMarkerTag := rfl

end markers

/-! ## The obligations about the decoder alone -/

/-- Settles O1: by the rows. Six rows hold an operand that the decoder's own tests read; every other row's tests read
only bytes and tags that the encoder fixes, so the decoder computes through them. -/
theorem decodeInvertsEncode : Obligations.DecodeInvertsEncode := by
  intro P i hwf
  cases i with
  | rdReg sp a v =>
    obtain ⟨_, ha⟩ : sp.wellFormed P = true ∧ isDevIdAddr a = false := by
      simpa [Instr.wellFormed] using hwf
    exact congrArg Except.ok (decodeRead_register ha sp v 0#8 0#8 [0#8] [])
  | wrReg sp a w =>
    obtain ⟨_, ha⟩ : sp.wellFormed P = true ∧ isOffsetAddr a = false := by
      simpa [Instr.wellFormed] using hwf
    exact congrArg Except.ok (decodeWrite_register ha sp w [])
  | errUnknown sp c =>
    obtain ⟨_, hc⟩ : sp.wellFormed P = true ∧ isCommandCode c = false := by
      simpa [Instr.wellFormed] using hwf
    exact congrArg Except.ok (decodeCommand_unknown hc [] [0#8] sp)
  | smpIdle data ts => exact congrArg Except.ok (decodeSample_idle false data ts)
  | smpActive1w data ts => exact congrArg Except.ok (decodeSample_active false data ts)
  | smpActive4w data ts => exact congrArg Except.ok (decodeSample_active true data ts)
  | _ => rfl

/-- Settles O2: a sample always decodes to `decodeSample`'s row, which `encode_decodeSample` writes back. -/
theorem sampleDecodingKeepsEveryBit : Obligations.SampleDecodingKeepsEveryBit := by
  intro quad v ts i h
  obtain rfl : decodeSample quad v ts = i := Except.ok.inj h
  exact encode_decodeSample quad v ts

/-- Settles O4: tag by tag. -/
theorem markerTagsSelectRows : Obligations.MarkerTagsSelectRows := fun o e t m r =>
  ⟨decode_marker_assert o e t m r, decode_marker_bytePair o e t m r, decode_marker_deassert o e t m r,
    decode_marker_reserved o e t m r⟩

/-- Settles O5: the decoder runs on six closed codes. -/
theorem writtenWordsDecode : Obligations.WrittenWordsDecode := ⟨rfl, rfl, rfl, rfl, rfl, rfl⟩

end Sys2Proof

namespace Sys2Proof.Machine

/-! ## The decoded rows run (R227, R228) -/

/-- Settles O6: whatever its mode bit, the decoded row runs the per-sample step on the sample's word
(`exec_decodeSample`), and that is what the edge does (`edgeEffect_sample`). -/
theorem stepRunsTheDecodedSample : Obligations.StepRunsTheDecodedSample := by
  intro s e rest i hinput hrst hvalid hdecode
  obtain rfl : decodeSample _ e.sValue (portTime e s) = i := Except.ok.inj hdecode
  calc step s = .next (acceptSample e.sValue (portTime e s) (s.takeEdge rest)) := by
        rw [step_eq, edgeEffect_sample hinput hrst hvalid]
    _ = _ := (exec_decodeSample _ e.sValue (portTime e s) (s.takeEdge rest)).symm

/-- R161, R162: the byte-pair row of the state's `txn_open` is what consuming a byte pair runs. -/
theorem exec_bytePair_row (m r : Byte) (s : State) :
    exec (if s.txnOpen then .mkBytepairOpen m r else .mkBytepairOrphan m r) s = .next (consume (.bytePair m r) s) := by
  simp only [consume]
  split <;> rfl

/-- R163, R164: the Deassert row of the transaction's emptiness is what consuming a Deassert runs. -/
theorem exec_deassert_row (t : Nat) (s : State) :
    exec (if txnEmpty s then .mkDeassertEmpty t else .mkDeassert t) s = .next (consume (.deassert t) s) := by
  simp only [consume]
  split <;> rfl

/-- Settles O8: marker by marker, the row of its tag and the state's row conditions is the one that `consume` picks. -/
theorem consumedMarkerIsItsRow : Obligations.ConsumedMarkerIsItsRow := by
  intro s k time m r i hassert hdeassert hpair hdecode
  cases k with
  | assert t =>
    obtain rfl := hassert t rfl
    obtain rfl := Except.ok.inj ((decode_marker_assert _ _ time m r).symm.trans hdecode)
    rfl
  | bytePair a b =>
    obtain ⟨rfl, rfl⟩ := hpair a b rfl
    obtain rfl := Except.ok.inj ((decode_marker_bytePair _ _ time m r).symm.trans hdecode)
    exact exec_bytePair_row m r s
  | deassert t =>
    obtain rfl := hdeassert t rfl
    obtain rfl := Except.ok.inj ((decode_marker_deassert _ _ time m r).symm.trans hdecode)
    exact exec_deassert_row time s

/-! ## What a step reads of a sample word (R70, R131) -/

section ignored
variable {v v' : SampleWord}

/-- R103: the detector reads only the chip-select flag of a sample word. -/
theorem detect_congr (hcs : csFlag v = csFlag v') (ts : Nat) (s : State) : detect v ts s = detect v' ts s := by
  have hb : isBoundary v ts s = isBoundary v' ts s := by simp only [isBoundary, hcs]
  simp only [detect, hb]

/-- R131: a single-wire clock reads only bits 0 and 1. -/
theorem clockSingle_congr (hmosi : mosiBit v = mosiBit v') (hmiso : misoBit v = misoBit v') (s : State) :
    clockSingle v s = clockSingle v' s := by
  simp only [clockSingle, hmosi, hmiso]

/-- R136: a quad-wire clock reads only bits 3:0. -/
theorem clockQuad_congr (hn : nibbleOf v = nibbleOf v') (p : Nat) (s : State) : clockQuad p v s = clockQuad p v' s := by
  simp only [clockQuad, hn]

/-- R130: the accumulator reads bits 1:0, and bits 3:2 only where the clock is a quad-wire one. -/
theorem accumulate_congr {s : State} (hmosi : mosiBit v = mosiBit v') (hmiso : misoBit v = misoBit v')
    (hn : isSingleWire s = true ∨ nibbleOf v = nibbleOf v') : accumulate v s = accumulate v' s := by
  rcases accumulate_cases v s with ⟨hsingle, h⟩ | ⟨p, hq, hp, h⟩
  · rw [h, accumulate_single hsingle, clockSingle_congr hmosi hmiso]
  · have hquad : isSingleWire s = false := by simpa [isSingleWire, hq] using hp
    have hnib : nibbleOf v = nibbleOf v' := hn.resolve_left (by simp [hquad])
    rw [h, accumulate_quad hq hp, clockQuad_congr hnib]

end ignored

/-- R130: the mode choice after the detector is the same from the state before the strobes are cleared. -/
theorem isSingleWire_detect_clearOutputs (v : SampleWord) (ts : Nat) (s : State) :
    isSingleWire (detect v ts s.clearOutputs) = isSingleWire (detect v ts s) := by
  have hb : isBoundary v ts s.clearOutputs = isBoundary v ts s := isBoundary_congr rfl rfl
  cases h : isBoundary v ts s
  · rw [detect_no_boundary h, detect_no_boundary (hb.trans h)]; rfl
  · rw [detect_boundary h, detect_boundary (hb.trans h)]
    cases hc : s.continuousMode
    · rw [crossBoundary_restart (s := s.updateThreshold ts) hc,
        crossBoundary_restart (s := s.clearOutputs.updateThreshold ts) hc]; rfl
    · rw [crossBoundary_resume (s := s.updateThreshold ts) hc,
        crossBoundary_resume (s := s.clearOutputs.updateThreshold ts) hc]; rfl

/-- Data fields that agree in their low `n` bits agree bit by bit there. -/
theorem getLsbD_eq_of_low_bits {d d' : SampleData} {n i : Nat} (h : d.extractLsb' 0 n = d'.extractLsb' 0 n)
    (hi : i < n) : d.getLsbD i = d'.getLsbD i := by
  have hbit := congrArg (fun x => x.getLsbD i) h
  simpa [BitVec.getLsbD_extractLsb', hi] using hbit

/-- R131, R136: an active sample counts by bits 1:0 of its data, and by bits 3:2 only where its clock is a quad-wire
one. -/
theorem acceptSample_active_congr {d d' : SampleData} {ts : Nat} {s : State}
    (h2 : d.extractLsb' 0 2 = d'.extractLsb' 0 2)
    (h4 : quadAfterDetector (sampleWord false d) ts s = false ∨ d.extractLsb' 0 4 = d'.extractLsb' 0 4) :
    acceptSample (sampleWord false d) ts s = acceptSample (sampleWord false d') ts s := by
  have hdetect : detect (sampleWord false d) ts s.clearOutputs = detect (sampleWord false d') ts s.clearOutputs :=
    detect_congr (by simp) ts s.clearOutputs
  have hmode : isSingleWire (detect (sampleWord false d) ts s.clearOutputs) = true ∨
      nibbleOf (sampleWord false d) = nibbleOf (sampleWord false d') :=
    h4.imp (fun h => by simpa [isSingleWire_detect_clearOutputs, quadAfterDetector] using h) (by simpa using ·)
  rw [acceptSample_active (by simp), acceptSample_active (by simp), ← hdetect]
  exact accumulate_congr (by simpa using getLsbD_eq_of_low_bits (i := 0) h2 (by omega))
    (by simpa using getLsbD_eq_of_low_bits (i := 1) h2 (by omega)) hmode

/-- Settles O47: an idle sample ends after the detector (R108), and an active one reads what
`acceptSample_active_congr` says. -/
theorem ignoredSampleBits : Obligations.IgnoredSampleBits := by
  intro s d d' ts
  refine ⟨congrArg Host.Outcome.next ?idle, fun h4 => ?active, fun h2 hsingle => ?single⟩
  case idle => rw [acceptSample_idle (by simp), acceptSample_idle (by simp)]
  case active =>
    have h2 : d.extractLsb' 0 2 = d'.extractLsb' 0 2 := by
      apply BitVec.eq_of_getLsbD_eq
      intro i hi
      simpa [BitVec.getLsbD_extractLsb', hi] using getLsbD_eq_of_low_bits h4 (by omega : i < 4)
    have heq := acceptSample_active_congr (ts := ts) (s := s) h2 (.inr h4)
    exact ⟨congrArg Host.Outcome.next heq, congrArg Host.Outcome.next heq⟩
  case single => exact congrArg Host.Outcome.next (acceptSample_active_congr h2 (.inl hsingle))

/-! ## Output signals (R87, R88) -/

/-- R194: every kind of record drives `r_valid` = 1. -/
theorem recordWires_rValid (r : Record) : (recordWires r).rValid = true := by
  obtain ⟨sp, payload⟩ := r
  cases payload with
  | readRegister a value => cases value <;> rfl
  | _ => rfl

theorem outputWires_of_record {s : State} {r : Record} (h : s.recOut = some r) : outputWires s = recordWires r := by
  simp only [outputWires, h]

theorem outputWires_rValid (s : State) : (outputWires s).rValid = s.recOut.isSome := by
  cases h : s.recOut with
  | none => simp only [outputWires, h, Option.isSome_none]
  | some r => rw [outputWires_of_record h, recordWires_rValid, Option.isSome_some]

/-- Settles O60: `r_valid` is the presence of a record (`outputWires_rValid`); the two status outputs are their
registers. -/
theorem outputStrobes : Obligations.OutputStrobes := fun s =>
  ⟨by rw [outputWires_rValid], fun _ => outputWires_of_record, rfl, rfl⟩

end Sys2Proof.Machine
end

section
/-!
PROOFS. The edge and transaction detector (spec/40_detector.md): the threshold over a stream of samples (R100 to R102,
R107, R111), the samples that start no transaction (R103, R108, R110, R115), and what a boundary closes, opens and
leaves to its own data clock (R104 to R106, R109, R113).
-/
namespace Sys2Proof.Machine

/-! ## The sample rows (R74) -/

theorem exec_idle_row (data : SampleData) (ts : Nat) (s : State) :
    exec (.smpIdle data ts) s = .next (acceptSample (sampleWord true data) ts s) := rfl

/-- R130: either active row runs the per-sample step on the same word; the mode is chosen inside it. -/
theorem exec_active_row {i : Instr} {data : SampleData} {ts : Nat}
    (hi : i ∈ [Instr.smpActive1w data ts, .smpActive4w data ts]) (s : State) :
    exec i s = .next (acceptSample (sampleWord false data) ts s) := by
  simp only [List.mem_cons, List.not_mem_nil, or_false] at hi
  rcases hi with rfl | rfl <;> rfl

/-! ## The threshold over a stream of samples (R102, R111) -/

/-- R100, R101: after a previous sample the gap is the difference of the times, 0 where they decrease. -/
theorem gapOf_of_last {last : Nat} {s : State} (h : s.lastSampleTime = some last) (ts : Nat) :
    gapOf ts s = ts - last := by
  simp only [gapOf, h]
  split_ifs <;> omega

/-- R100: the first sample contributes no gap. -/
theorem thresholdOf_of_no_last {s : State} (h : s.lastSampleTime = none) (ts : Nat) :
    thresholdOf ts s = s.fastestGap := by
  simp only [thresholdOf, gapOf, h, Config.gapMult]
  omega

theorem thresholdOf_of_last {last : Nat} {s : State} (h : s.lastSampleTime = some last) (ts : Nat) :
    thresholdOf ts s = min s.fastestGap (4 * (ts - last)) := by
  rw [thresholdOf, gapOf_of_last h, Config.gapMult, min_comm]

/-- R89: a timestamp that fits the port is read as it is. -/
theorem portTime_of_lt {e : Edge} {s : State} (h : e.sTs < 2 ^ s.params.tsW) : portTime e s = e.sTs :=
  Nat.mod_eq_of_lt h

/-- R102, R107: what the edge of one sample leaves of the detector's state and of the input. -/
theorem edgeEffect_sampleEdge {s : State} {x : SampleWord × Nat} {xs : List (SampleWord × Nat)} {rest : List Edge}
    (hi : s.input = sampleEdges (x :: xs) ++ rest) (hts : x.2 < 2 ^ s.params.tsW) :
    (edgeEffect s).fastestGap = thresholdOf x.2 s ∧ (edgeEffect s).lastSampleTime = some x.2 ∧
      (edgeEffect s).params = s.params ∧ (edgeEffect s).input = sampleEdges xs ++ rest := by
  have hedge : edgeEffect s = acceptSample x.1 x.2 (s.takeEdge (sampleEdges xs ++ rest)) := by
    rw [edgeEffect_sample hi rfl rfl, portTime_of_lt hts]
    rfl
  obtain ⟨hgap, hlast⟩ := acceptSample_threshold_time x.1 x.2 (s.takeEdge (sampleEdges xs ++ rest))
  obtain ⟨hparams, _, _, hinput, _⟩ := acceptSample_frame x.1 x.2 (s.takeEdge (sampleEdges xs ++ rest))
  rw [hedge]
  exact ⟨hgap, hlast, hparams, hinput⟩

/-- R111, after a previous sample: each sample lowers the threshold to four times its own gap, if that is less. -/
theorem fastestGap_of_samples {s : State} {xs : List (SampleWord × Nat)} {rest : List Edge} {last : Nat}
    (hi : s.input = sampleEdges xs ++ rest) (hl : s.lastSampleTime = some last)
    (hts : ∀ y ∈ xs, y.2 < 2 ^ s.params.tsW) :
    (edgeEffect^[xs.length] s).fastestGap =
      (gapsAfter last (xs.map Prod.snd)).foldl (fun m g => min m (4 * g)) s.fastestGap := by
  induction xs generalizing s last with
  | nil => rfl
  | cons x xs ih =>
    obtain ⟨hgap, hlast, hparams, hinput⟩ := edgeEffect_sampleEdge hi (hts x List.mem_cons_self)
    rw [List.length_cons, Function.iterate_succ_apply,
      ih hinput hlast (by rw [hparams]; exact fun y hy => hts y (List.mem_cons_of_mem x hy)), hgap,
      thresholdOf_of_last hl]
    rfl

/-- Settles O39: the first sample keeps the threshold and gives the stream its first time; the rest is
`fastestGap_of_samples`, an induction over the stream. -/
theorem thresholdIsFourTimesTheSmallestGap : Obligations.ThresholdIsFourTimesTheSmallestGap := by
  intro s t x xs rest hi hl hts hrun
  obtain rfl : edgeEffect^[xs.length + 1] s = t := Host.Outcome.next.inj ((run_eq_iterate _ s).symm.trans hrun)
  obtain ⟨hgap, hlast, hparams, hinput⟩ := edgeEffect_sampleEdge hi (hts x List.mem_cons_self)
  rw [Function.iterate_succ_apply,
    fastestGap_of_samples hinput hlast (by rw [hparams]; exact fun y hy => hts y (List.mem_cons_of_mem x hy)), hgap,
    thresholdOf_of_no_last hl]

/-- Settles O30: each sample row is an accepted sample (`acceptSample_threshold_time`), and the statement's gap is
`gapOf`. -/
theorem everySampleUpdatesThresholdAndTime : Obligations.EverySampleUpdatesThresholdAndTime := by
  intro s data ts i hi
  obtain ⟨v, hexec⟩ : ∃ v, exec i s = .next (acceptSample v ts s) := by
    rcases List.mem_cons.1 hi with rfl | hactive
    · exact ⟨_, exec_idle_row data ts s⟩
    · exact ⟨_, exec_active_row hactive s⟩
  obtain ⟨hgap, hlast⟩ := acceptSample_threshold_time v ts s
  refine ⟨_, hexec, hlast, hgap.trans ?_⟩
  cases hl : s.lastSampleTime <;> simp only [thresholdOf, gapOf, hl, Config.gapMult, ge_iff_le]

/-- Settles O31: an idle sample ends after the detector, which it does not cross. -/
theorem idleSampleIsDiscarded : Obligations.IdleSampleIsDiscarded := by
  intro s data ts
  rw [exec_idle_row, acceptSample_idle (csFlag_sampleWord true data)]
  rfl

/-- Settles O32: below the old threshold there is no boundary (`no_boundary_of_le`), above it there is one
(`boundary_of_lt`). -/
theorem boundaryTestIgnoresTheUpdate : Obligations.BoundaryTestIgnoresTheUpdate := by
  intro v ts s
  constructor
  · intro hb
    obtain ⟨_, hcs⟩ := (isBoundary_iff v ts s).1 hb
    refine ⟨not_le.1 fun hle => ?_, hcs⟩
    rw [no_boundary_of_le hle] at hb
    exact absurd hb (by decide)
  · rintro ⟨hgap, hcs⟩
    exact boundary_of_lt hgap hcs

/-! ## Samples that start no transaction (R103, R115) -/

/-- R103: an active sample whose gap is within the threshold is one data clock. -/
theorem acceptSample_quiet {v : SampleWord} {ts : Nat} {s : State} (hcs : csFlag v = false)
    (hgap : gapOf ts s ≤ s.fastestGap) :
    acceptSample v ts s = accumulate v ((s.clearOutputs.updateThreshold ts).setLastSample ts) := by
  rw [acceptSample_active hcs, detect_no_boundary (no_boundary_of_le (s := s.clearOutputs) hgap)]

/-- R161, R162: a data clock adds at most one byte pair, and that only to an open transaction. -/
theorem accumulate_bytes (v : SampleWord) (s : State) :
    ((accumulate v s).mosiBytes = s.mosiBytes ∧ (accumulate v s).misoBytes = s.misoBytes) ∨
      (s.txnOpen = true ∧ ∃ m r, (accumulate v s).mosiBytes = s.mosiBytes ++ [m] ∧
        (accumulate v s).misoBytes = s.misoBytes ++ [r]) := by
  rcases accumulate_cases v s with ⟨_, h⟩ | ⟨p, _, _, h⟩ <;>
    rw [h, State.setClock_mosiBytes, State.setClock_misoBytes]
  · by_cases hlast : s.clockCount % 8 = 7
    · cases ho : s.txnOpen with
      | true =>
        obtain ⟨hm, hr, _⟩ := clockSingle_last (v := v) hlast ho
        exact .inr ⟨rfl, _, _, hm, hr⟩
      | false => rw [clockSingle_eq, if_pos hlast, ho]; exact .inl ⟨rfl, rfl⟩
    · rw [clockSingle_inside hlast]; exact .inl ⟨rfl, rfl⟩
  · by_cases hfirst : s.clockCount % 2 = p % 2
    · rw [clockQuad_first hfirst]; exact .inl ⟨rfl, rfl⟩
    · cases ho : s.txnOpen with
      | true => rw [clockQuad_second hfirst ho]; exact .inr ⟨rfl, _, _, rfl, rfl⟩
      | false => rw [clockQuad_eq, if_pos hfirst, ho]; exact .inl ⟨rfl, rfl⟩

/-- Settles O33: such a sample is one data clock (`acceptSample_quiet`), which leaves the transaction's own fields
alone and adds at most a pair. -/
theorem smallGapStartsNoTransaction : Obligations.SmallGapStartsNoTransaction := by
  intro s data ts i hi hgap
  refine ⟨_, exec_active_row hi s, ?_⟩
  rw [acceptSample_quiet (csFlag_sampleWord false data) hgap]
  obtain ⟨_, _, _, hcount, _, hopen, hstart, _, hrec, _⟩ :=
    accumulate_frame (sampleWord false data) ((s.clearOutputs.updateThreshold ts).setLastSample ts)
  exact ⟨hcount, hstart, hopen, hrec, accumulate_bytes _ ((s.clearOutputs.updateThreshold ts).setLastSample ts)⟩

/-- R103: a sample that is no boundary counts no transaction. -/
theorem acceptSample_count_of_no_boundary {v : SampleWord} {ts : Nat} {s : State} (hb : isBoundary v ts s = false) :
    (acceptSample v ts s).transactionCount = s.transactionCount := by
  cases hcs : csFlag v with
  | true => rw [acceptSample_idle hcs]; rfl
  | false =>
    have hb' : isBoundary v ts s.clearOutputs = false := (isBoundary_congr rfl rfl).trans hb
    obtain ⟨_, _, _, hcount, _⟩ := accumulate_frame v (detect v ts s.clearOutputs)
    rw [acceptSample_active hcs, hcount, detect_no_boundary hb']
    rfl

/-- R115: no gap between times that fit the port exceeds the largest threshold. -/
theorem isBoundary_of_largest_threshold {s : State} (hgap : s.fastestGap = 2 ^ s.params.tsW - 1) (e : Edge) :
    isBoundary e.sValue (portTime e s) s = false := by
  cases hl : s.lastSampleTime with
  | none => exact isBoundary_of_no_last hl
  | some last =>
    have hts := portTime_lt e s
    exact no_boundary_of_le (by rw [gapOf_of_last hl]; omega)

/-- R115: at the largest threshold an edge without reset counts no transaction, and it keeps that threshold where there
is no previous sample. -/
theorem edgeEffect_of_largest_threshold {s : State} {e : Edge} {rest : List Edge} (hi : s.input = e :: rest)
    (hr : e.rst = false) (hgap : s.fastestGap = 2 ^ s.params.tsW - 1) :
    (edgeEffect s).transactionCount = s.transactionCount ∧ (edgeEffect s).params = s.params ∧
      (edgeEffect s).input = rest ∧ (s.lastSampleTime = none → (edgeEffect s).fastestGap = s.fastestGap) := by
  cases hv : e.sValid with
  | false =>
    have hhold : edgeEffect s = holdEdge (s.takeEdge rest) := by simp [edgeEffect, hi, hr, hv]
    rw [hhold]
    exact ⟨rfl, rfl, rfl, fun _ => rfl⟩
  | true =>
    obtain ⟨hparams, _, _, hinput, _⟩ := acceptSample_frame e.sValue (portTime e s) (s.takeEdge rest)
    obtain ⟨hthreshold, _⟩ := acceptSample_threshold_time e.sValue (portTime e s) (s.takeEdge rest)
    rw [edgeEffect_sample hi hr hv]
    exact ⟨acceptSample_count_of_no_boundary (s := s.takeEdge rest) (isBoundary_of_largest_threshold hgap e), hparams,
      hinput, fun hl => hthreshold.trans (thresholdOf_of_no_last (s := s.takeEdge rest) hl _)⟩

/-- Settles O41: the first edge keeps the largest threshold, so neither edge counts a transaction. -/
theorem firstTwoSamplesStartNoTransaction : Obligations.FirstTwoSamplesStartNoTransaction := by
  intro s e1 e2 rest hgap hl hcount hi hr1 hr2
  obtain ⟨hcount1, hparams1, hinput1, hgap1⟩ := edgeEffect_of_largest_threshold hi hr1 hgap
  obtain ⟨hcount2, _, hinput2, _⟩ :=
    edgeEffect_of_largest_threshold hinput1 hr2 (by rw [hgap1 hl, hparams1, hgap])
  exact ⟨_, run_eq_iterate 2 s, hcount2.trans (hcount1.trans hcount), hinput2⟩

/-! ## The record of the closed transaction (R104, R164, R181) -/

/-- R183 to R185, R190: the rows of a read answer what `interpret` reads under its length guards. -/
theorem commandRecord_read (sp : Span) (args miso : List Byte) :
    commandRecord (decodeRead sp args miso) = some (interpret (0x0B#8 :: args) miso sp) := by
  rcases args with _ | ⟨a, args⟩
  · rfl
  · rcases miso with _ | ⟨b, _ | ⟨c, _ | ⟨v, miso⟩⟩⟩
    case cons.cons.cons =>
      simp only [decodeRead]
      split_ifs <;> simp [interpret, commandRecord, *]
    all_goals simp [decodeRead, interpret, commandRecord]

/-- R186, R187, R190: the rows of a write. -/
theorem commandRecord_write (sp : Span) (args miso : List Byte) :
    commandRecord (decodeWrite sp args) = some (interpret (0x0A#8 :: args) miso sp) := by
  rcases args with _ | ⟨a, _ | ⟨w, args⟩⟩
  · rfl
  · simp [decodeWrite, interpret, commandRecord]
  · simp only [decodeWrite]
    split_ifs <;> simp [interpret, commandRecord, *]

/-- R188, R190: the rows of a FIFO read. -/
theorem commandRecord_fifo (sp : Span) (args miso : List Byte) :
    commandRecord (decodeFifo sp miso) = some (interpret (0x0D#8 :: args) miso sp) := by
  rcases miso with _ | ⟨b, _ | ⟨v, miso⟩⟩ <;> simp [decodeFifo, interpret, commandRecord]

/-- R181: the record of the decoded command row is `interpret`'s, command code by command code. -/
theorem commandRecord_decodeCommand_eq (mosi miso : List Byte) (sp : Span) :
    commandRecord (decodeCommand mosi miso sp) = some (interpret mosi miso sp) := by
  rcases mosi with _ | ⟨c, args⟩
  · rfl
  · simp only [decodeCommand]
    split_ifs with hread hwrite hfifo
    · rw [hread, commandRecord_read]
    · rw [hwrite, commandRecord_write]
    · rw [hfifo, commandRecord_fifo]
    · simp [interpret, commandRecord, hread, hwrite, hfifo]

/-- R163: a transaction is not empty when both sequences have an entry. -/
theorem txnEmpty_eq_false_iff (s : State) : txnEmpty s = false ↔ s.mosiBytes ≠ [] ∧ s.misoBytes ≠ [] := by
  simp [txnEmpty]

/-- R181, R182: the record of the transaction in `s`, closed at time `t`. -/
def State.recordAt (t : Nat) (s : State) : Record := interpret s.mosiBytes s.misoBytes ⟨s.transactionStartTime, t⟩

/-- R164, R220: closing a non-empty transaction presents its record to the filter. -/
theorem consume_deassert_recOut {t : Nat} {s : State} (he : txnEmpty s = false) :
    (consume (.deassert t) s).recOut =
      if passes s.params s.verbosity (s.recordAt t).kind then some (s.recordAt t) else s.recOut := by
  rw [consume_deassert he, runCommand_of_record (commandRecord_decodeCommand_eq _ _ _)]
  rfl

/-- R104, R163, R164: closing the previous transaction outputs its record if there is one to close, it is not empty and
the filter passes the record. -/
theorem closePrevious_recOut_eq (last : Nat) (s : State) :
    (closePrevious (some last) s).recOut =
      if 0 < s.transactionCount ∧ s.mosiBytes ≠ [] ∧ s.misoBytes ≠ [] ∧
          passes s.params s.verbosity (s.recordAt last).kind
      then some (s.recordAt last) else s.recOut := by
  rcases Nat.eq_zero_or_pos s.transactionCount with hcount | hcount
  · simp [closePrevious_first hcount, hcount]
  rw [closePrevious_of_count hcount]
  cases he : txnEmpty s with
  | true =>
    have hbytes : ¬ (s.mosiBytes ≠ [] ∧ s.misoBytes ≠ []) := by rw [← txnEmpty_eq_false_iff, he]; decide
    rw [consume_deassert_empty he, if_neg fun ⟨_, hmosi, hmiso, _⟩ => hbytes ⟨hmosi, hmiso⟩]
    rfl
  | false =>
    obtain ⟨hmosi, hmiso⟩ := (txnEmpty_eq_false_iff s).1 he
    simp [consume_deassert_recOut he, hcount, hmosi, hmiso]

/-! ## Boundaries (R104 to R106, R109) -/

/-- The state of a boundary sample between ASSERT-SYNTH and the start of its frame: the old transaction is closed, with
its record, if any, in the record output, and the new one is open, counted and empty. -/
def State.atBoundary (ts : Nat) (s : State) : State :=
  { s with
    fastestGap := thresholdOf ts s
    lastSampleTime := some ts
    transactionCount := s.countBoundary.transactionCount
    txnOpen := true
    mosiBytes := []
    misoBytes := []
    transactionStartTime := ts
    recOut := (closePrevious s.lastSampleTime (s.clearOutputs.updateThreshold ts)).recOut
    anomaly := false }

theorem startFrame_restart {s : State} (h : s.continuousMode = false) : startFrame s = s.restartFrame := by
  simp [startFrame, h]

/-- R109: with the new transaction open, the replay pair lands in it. -/
theorem startFrame_resume {s : State} (h : s.continuousMode = true) (ho : s.txnOpen = true) :
    startFrame s = (s.setClock Config.resumeClock).appendPair (s.commandByte.getD 0x00#8) 0x00#8 := by
  simp [startFrame, h, resume, consume_pair, ho]

/-- R103 to R109: the detector on a boundary sample. -/
theorem detect_atBoundary {v : SampleWord} {ts : Nat} {s : State} (hcs : csFlag v = false)
    (hgap : s.fastestGap < gapOf ts s) : detect v ts s.clearOutputs = startFrame (s.atBoundary ts) := by
  rw [detect_boundary (boundary_of_lt (s := s.clearOutputs) hgap hcs)]
  cases hc : s.continuousMode with
  | false =>
    rw [crossBoundary_restart (s := s.clearOutputs.updateThreshold ts) hc,
      startFrame_restart (s := s.atBoundary ts) hc]
    rfl
  | true =>
    rw [crossBoundary_resume (s := s.clearOutputs.updateThreshold ts) hc,
      startFrame_resume (s := s.atBoundary ts) hc rfl]
    rfl

/-- R227: a boundary sample starts its frame and is then the frame's first data clock. -/
theorem acceptSample_boundary {v : SampleWord} {ts : Nat} {s : State} (hcs : csFlag v = false)
    (hgap : s.fastestGap < gapOf ts s) : acceptSample v ts s = accumulate v (startFrame (s.atBoundary ts)) := by
  rw [acceptSample_active hcs, detect_atBoundary hcs hgap]

/-- The start of the frame, in either mode, leaves the new transaction's own fields and the record output alone. -/
theorem startFrame_atBoundary (ts : Nat) (s : State) :
    (startFrame (s.atBoundary ts)).txnOpen = true ∧ (startFrame (s.atBoundary ts)).transactionStartTime = ts ∧
      (startFrame (s.atBoundary ts)).transactionCount = s.countBoundary.transactionCount ∧
      (startFrame (s.atBoundary ts)).recOut =
        (closePrevious s.lastSampleTime (s.clearOutputs.updateThreshold ts)).recOut := by
  cases hc : s.continuousMode with
  | false => rw [startFrame_restart (s := s.atBoundary ts) hc]; exact ⟨rfl, rfl, rfl, rfl⟩
  | true => rw [startFrame_resume (s := s.atBoundary ts) hc rfl]; exact ⟨rfl, rfl, rfl, rfl⟩

/-- R104, R105: what a boundary sample leaves of the new transaction's own fields, and the record of the old one. -/
theorem acceptSample_boundary_opens {v : SampleWord} {ts : Nat} {s : State} (hcs : csFlag v = false)
    (hgap : s.fastestGap < gapOf ts s) :
    (acceptSample v ts s).txnOpen = true ∧ (acceptSample v ts s).transactionStartTime = ts ∧
      (acceptSample v ts s).transactionCount = s.countBoundary.transactionCount ∧
      (acceptSample v ts s).recOut =
        (closePrevious s.lastSampleTime (s.clearOutputs.updateThreshold ts)).recOut := by
  obtain ⟨_, _, _, hcount, _, hopen, hstart, _, hrec, _⟩ := accumulate_frame v (startFrame (s.atBoundary ts))
  rw [acceptSample_boundary hcs hgap, hcount, hopen, hstart, hrec]
  exact startFrame_atBoundary ts s

/-- Settles O34: the record output of a boundary sample is that of the close (`acceptSample_boundary_opens`), which
`closePrevious_recOut_eq` gives from a cleared record output. -/
theorem boundaryReportsThePreviousTransaction : Obligations.BoundaryReportsThePreviousTransaction := by
  intro s data ts last i hi hl hgap
  obtain ⟨_, _, _, hrec⟩ := acceptSample_boundary_opens (csFlag_sampleWord false data) hgap
  rw [hl] at hrec
  exact ⟨_, exec_active_row hi s, hrec.trans (closePrevious_recOut_eq last (s.clearOutputs.updateThreshold ts))⟩

/-- Settles O35: `acceptSample_boundary_opens`, with the saturating count of R105. -/
theorem boundaryOpensTheNextTransaction : Obligations.BoundaryOpensTheNextTransaction := by
  intro s data ts i hi hgap
  obtain ⟨hopen, hstart, hcount, _⟩ := acceptSample_boundary_opens (csFlag_sampleWord false data) hgap
  exact ⟨_, exec_active_row hi s, hopen, hstart, hcount⟩

/-- Settles O40: an edge without reset never raises the threshold (`thresholdNeverIncreases`), and a positive gap
exceeds a zero threshold. -/
theorem zeroThresholdIsPermanent : Obligations.ZeroThresholdIsPermanent := by
  intro s hzero
  constructor
  · intro hno
    obtain ⟨hle, _⟩ := thresholdNeverIncreases s (edgeEffect s) hno (step_eq s)
    exact ⟨_, step_eq s, by omega⟩
  · intro e rest last hi hr hv hcs hl hlater hts
    have hgap : s.fastestGap < gapOf e.sTs s := by rw [gapOf_of_last hl]; omega
    obtain ⟨hopen, hstart, _⟩ := acceptSample_boundary_opens (s := s.takeEdge rest) hcs hgap
    refine ⟨_, step_eq s, ?_⟩
    rw [edgeEffect_sample hi hr hv, portTime_of_lt hts]
    exact ⟨hopen, hstart⟩

/-! ## The first data clock of a frame (R106, R109) -/

/-- R140: a clock index that fits `CC_W` bits is kept. -/
theorem trunc_of_lt_two_pow {w k n : Nat} (hw : k ≤ w) (hn : n < 2 ^ k) : trunc w n = n :=
  Nat.mod_eq_of_lt (hn.trans_le (Nat.pow_le_pow_right (by decide) hw))

/-- R131 from a cleared accumulator. -/
theorem shiftBit_zero (b : Bool) : shiftBit 0x00#8 b = (BitVec.ofBool b).setWidth 8 := by
  cases b <;> rfl

/-- Settles O36: RESTART leaves clock 0 and no switch point, so the sample is a single-wire clock inside a byte. -/
theorem boundarySampleRestartsTheFrame : Obligations.BoundarySampleRestartsTheFrame := by
  intro s data ts i hi hc hw hgap
  refine ⟨(s.atBoundary ts).recOut, (exec_active_row hi s).trans (congrArg Host.Outcome.next ?_)⟩
  calc acceptSample (sampleWord false data) ts s
      = accumulate (sampleWord false data) (s.atBoundary ts).restartFrame := by
        rw [acceptSample_boundary (csFlag_sampleWord false data) hgap, startFrame_restart (s := s.atBoundary ts) hc]
    _ = ((s.atBoundary ts).restartFrame.setShifts (shiftBit 0x00#8 (data.getLsbD 0))
          (shiftBit 0x00#8 (data.getLsbD 1))).setClock (trunc s.params.ccW (0 + 1)) := by
        rw [accumulate_single rfl, clockSingle_inside (show 0 % 8 ≠ 7 by decide), mosiBit_sampleWord,
          misoBit_sampleWord]
        rfl
    _ = _ := by
        rw [shiftBit_zero, shiftBit_zero, trunc_of_lt_two_pow hw (by decide)]
        rfl

/-- R109: the state in which the boundary sample of a continuous transaction meets the accumulator. -/
def State.resumed (ts : Nat) (s : State) : State :=
  ((s.atBoundary ts).setClock 8).appendPair (s.commandByte.getD 0x00#8) 0x00#8

/-- R109: in continuous mode a boundary sample is the data clock at index 8. -/
theorem acceptSample_resumed {v : SampleWord} {ts : Nat} {s : State} (hcs : csFlag v = false)
    (hc : s.continuousMode = true) (hgap : s.fastestGap < gapOf ts s) :
    acceptSample v ts s = accumulate v (s.resumed ts) := by
  rw [acceptSample_boundary hcs hgap, startFrame_resume (s := s.atBoundary ts) hc rfl]
  rfl

/-- Settles O37: clock 8 is below the switch point, if there is one, so the sample is a single-wire clock inside a
byte. -/
theorem continuousBoundaryReplaysTheCommand : Obligations.ContinuousBoundaryReplaysTheCommand := by
  intro s data ts i hi hc hw hgap hpoint
  have hsingle : isSingleWire (s.resumed ts) = true := by
    have hq : (s.resumed ts).quadSwitchPoint = s.quadSwitchPoint := rfl
    rcases hpoint with hnone | ⟨p, hsome, hp⟩
    · simp only [isSingleWire, hq, hnone]
    · simp only [isSingleWire, hq, hsome]
      exact decide_eq_true hp
  refine ⟨(s.atBoundary ts).recOut, (exec_active_row hi s).trans (congrArg Host.Outcome.next ?_)⟩
  calc acceptSample (sampleWord false data) ts s
      = ((s.resumed ts).setShifts (shiftBit s.mosiShift (data.getLsbD 0))
          (shiftBit s.misoShift (data.getLsbD 1))).setClock (trunc s.params.ccW (8 + 1)) := by
        rw [acceptSample_resumed (csFlag_sampleWord false data) hc hgap, accumulate_single hsingle,
          clockSingle_inside (s := s.resumed ts) (show 8 % 8 ≠ 7 by decide), mosiBit_sampleWord, misoBit_sampleWord]
        rfl
    _ = _ := by
        rw [shiftBit_eq, shiftBit_eq, trunc_of_lt_two_pow hw (by decide)]
        rfl

/-- Settles O38: clock 8 is at or above the switch point, so the sample is a quad-wire clock: the second of a byte at an
odd point, the first at an even one. -/
theorem continuousBoundaryOnAQuadClock : Obligations.ContinuousBoundaryOnAQuadClock := by
  intro s data ts p q i hi hc hw hgap hpoint hp hq
  have hclock : acceptSample (sampleWord false data) ts s =
      (clockQuad p (sampleWord false data) (s.resumed ts)).setClock 9 := by
    have h9 : trunc s.params.ccW (8 + 1) = 9 := trunc_of_lt_two_pow hw (by decide)
    rw [acceptSample_resumed (csFlag_sampleWord false data) hc hgap, accumulate_quad (s := s.resumed ts) hpoint hp,
      ← h9]
    rfl
  have hbyte : shiftNibble (s.resumed ts).quadShift (nibbleOf (sampleWord false data)) = q := by
    rw [nibbleOf_sampleWord, shiftNibble_eq, hq]
    rfl
  refine ⟨(s.atBoundary ts).recOut, (exec_active_row hi s).trans (congrArg Host.Outcome.next ?_)⟩
  rw [hclock]
  by_cases hodd : p % 2 = 1
  · rw [clockQuad_second (s := s.resumed ts) (show 8 % 2 ≠ p % 2 by omega) rfl, hbyte]
    simp only [hodd, if_true]
    rfl
  · rw [clockQuad_first (s := s.resumed ts) (show 8 % 2 = p % 2 by omega), hbyte]
    simp only [hodd, if_false]
    rfl

end Sys2Proof.Machine
end

section
/-!
PROOFS. The bit accumulator (spec/41_accumulator.md): the whole effect of an active sample within the threshold, which
is a single-wire clock inside a byte (R131), one that completes a byte (R133 to R135), or a quad-wire clock (R136,
R137).
-/
namespace Sys2Proof.Machine

/-- R102, R103, R107: the state in which an active sample whose gap is within the threshold meets the accumulator. -/
def State.afterSmallGap (ts : Nat) (s : State) : State := (s.clearOutputs.updateThreshold ts).setLastSample ts

/-- R130: without a switch point, or below it, the clock is a single-wire one. -/
theorem isSingleWire_of_below_switch {s : State}
    (h : s.quadSwitchPoint = none ∨ ∃ p, s.quadSwitchPoint = some p ∧ s.clockCount < p) : isSingleWire s = true := by
  rcases h with hnone | ⟨p, hsome, hlt⟩
  · simp only [isSingleWire, hnone]
  · simp only [isSingleWire, hsome, hlt, decide_true]

section rows
variable {s : State} {data : SampleData} {ts : Nat} {i : Instr}

/-- R103, R227: either active row, at a gap within the threshold, is one data clock. -/
theorem exec_active_row_small_gap (hi : i ∈ [Instr.smpActive1w data ts, .smpActive4w data ts])
    (hgap : gapOf ts s ≤ s.fastestGap) :
    exec i s = .next (accumulate (sampleWord false data) (s.afterSmallGap ts)) := by
  rw [exec_active_row hi, acceptSample_quiet (csFlag_sampleWord false data) hgap, State.afterSmallGap]

/-- R130, R141: below the switch point that clock is a single-wire one, and the clock index counts it. -/
theorem exec_active_row_single (hi : i ∈ [Instr.smpActive1w data ts, .smpActive4w data ts])
    (hgap : gapOf ts s ≤ s.fastestGap)
    (hmode : s.quadSwitchPoint = none ∨ ∃ p, s.quadSwitchPoint = some p ∧ s.clockCount < p) :
    exec i s = .next ((clockSingle (sampleWord false data) (s.afterSmallGap ts)).setClock
      (trunc s.params.ccW (s.clockCount + 1))) := by
  rw [exec_active_row_small_gap hi hgap,
    accumulate_single (s := s.afterSmallGap ts) (isSingleWire_of_below_switch (s := s.afterSmallGap ts) hmode)]
  rfl

/-- R130, R141: from the switch point on that clock is a quad-wire one, and the clock index counts it. -/
theorem exec_active_row_quad {p : Nat} (hi : i ∈ [Instr.smpActive1w data ts, .smpActive4w data ts])
    (hgap : gapOf ts s ≤ s.fastestGap) (hpoint : s.quadSwitchPoint = some p) (hp : p ≤ s.clockCount) :
    exec i s = .next ((clockQuad p (sampleWord false data) (s.afterSmallGap ts)).setClock
      (trunc s.params.ccW (s.clockCount + 1))) := by
  rw [exec_active_row_small_gap hi hgap, accumulate_quad (s := s.afterSmallGap ts) hpoint hp]
  rfl

end rows

/-- Settles O42: the sample is a single-wire clock inside a byte, which only shifts (`clockSingle_inside`). -/
theorem singleWireClockShiftsOneBit : Obligations.SingleWireClockShiftsOneBit := by
  intro s data ts i hi hgap hmode hinside
  rw [exec_active_row_single hi hgap hmode, clockSingle_inside (s := s.afterSmallGap ts) hinside, shiftBit_eq,
    shiftBit_eq, mosiBit_sampleWord, misoBit_sampleWord]
  rfl

/-- Settles O43: the sample is the last single-wire clock of a byte, whose effect `clockSingle_eq` gives for an open
transaction and for none; the outputs are clear when the clock meets them. -/
theorem singleWireByteCompletes : Obligations.SingleWireByteCompletes := by
  rintro s data ts _ _ i hi hgap hmode hlast rfl rfl
  rw [exec_active_row_single hi hgap hmode, clockSingle_eq,
    if_pos (show (s.afterSmallGap ts).clockCount % 8 = 7 from hlast), shiftBit_eq, shiftBit_eq, mosiBit_sampleWord,
    misoBit_sampleWord]
  rfl

/-- Settles O44: the sample is a quad-wire clock, the first of a byte at an even offset (`clockQuad_first`) and the
second at an odd one (`clockQuad_eq`). -/
theorem quadWireClock : Obligations.QuadWireClock := by
  rintro s data ts p _ i hi hgap hpoint hp rfl
  rw [exec_active_row_quad hi hgap hpoint hp]
  constructor
  · intro heven
    have hfirst : s.clockCount % 2 = p % 2 := by omega
    rw [clockQuad_first (s := s.afterSmallGap ts) hfirst, shiftNibble_eq, nibbleOf_sampleWord]
    rfl
  · intro hodd
    have hsecond : s.clockCount % 2 ≠ p % 2 := by omega
    rw [clockQuad_eq, if_pos (show (s.afterSmallGap ts).clockCount % 2 ≠ p % 2 from hsecond), shiftNibble_eq,
      nibbleOf_sampleWord]
    rfl

end Sys2Proof.Machine
end

section
/-!
PROOFS. The transaction assembler (spec/42_assembler.md): the marker rows inside their guards (R160 to R164), and the
pulses of `anomaly` over a run (R166, R229), which follow the rising edges of `empty_result_warned`.
-/
namespace Sys2Proof.Machine

/-! ## What a report writes (R162, R242) -/

theorem raiseAnomaly_first {s : State} (h : s.emptyResultWarned = false) :
    s.raiseAnomaly = { s with emptyResultWarned := true, anomaly := true } := by
  simp [State.raiseAnomaly, h]

theorem raiseAnomaly_again {s : State} (h : s.emptyResultWarned = true) : s.raiseAnomaly = s := by
  simp only [State.raiseAnomaly, h, if_true]
  rw [← h]

/-! ## The pulses of `anomaly` (R166, R229) -/

/-- R162, R242 from `s` to `t`: `orphan` says whether a byte pair was consumed with no transaction open. It sets the flag,
and it pulses `anomaly` if the flag was not set before. -/
structure ReportsOrphan (orphan : Bool) (s t : State) : Prop where
  txnClosed : orphan = true → t.txnOpen = false
  warned : t.emptyResultWarned = (s.emptyResultWarned || orphan)
  pulse : t.anomaly = (s.anomaly || (orphan && !s.emptyResultWarned))

/-- R161, R162: the orphan of a data clock is the byte it completes with no transaction open. -/
theorem accumulate_reportsOrphan (v : SampleWord) (s : State) : ∃ orphan, ReportsOrphan orphan s (accumulate v s) := by
  obtain ⟨_, _, _, _, _, hopen, _⟩ := accumulate_frame v s
  rcases accumulate_cases v s with ⟨_, h⟩ | ⟨p, _, _, h⟩
  · refine ⟨decide (s.clockCount % 8 = 7) && !s.txnOpen, by simp [hopen], ?_, ?_⟩ <;>
      rw [h, clockSingle_eq] <;> split_ifs with hlast <;> simp [hlast]
  · refine ⟨decide (s.clockCount % 2 ≠ p % 2) && !s.txnOpen, by simp [hopen], ?_, ?_⟩ <;>
      rw [h, clockQuad_eq] <;> split_ifs with hsecond <;> simp [hsecond]

/-- R162: the detector emits no orphan pair, since the pair a boundary replays lands in the transaction just opened. -/
theorem detect_report (v : SampleWord) (ts : Nat) (s : State) :
    (detect v ts s).emptyResultWarned = s.emptyResultWarned ∧ (detect v ts s).anomaly = s.anomaly := by
  cases hb : isBoundary v ts s with
  | false => rw [detect_no_boundary hb]; exact ⟨rfl, rfl⟩
  | true =>
    obtain ⟨_, _, _, _, hwarned, hanomaly, _⟩ := crossBoundary_frame s.lastSampleTime ts (s.updateThreshold ts)
    rw [detect_boundary hb]
    exact ⟨hwarned, hanomaly⟩

/-- R227: a step begins with `anomaly` clear and consumes at most one orphan pair, in the accumulator. -/
theorem acceptSample_reportsOrphan (v : SampleWord) (ts : Nat) (s : State) :
    ∃ orphan, ReportsOrphan orphan s.clearOutputs (acceptSample v ts s) := by
  cases hv : csFlag v with
  | true => rw [acceptSample_idle hv]; exact ⟨false, nofun, by simp, by simp⟩
  | false =>
    obtain ⟨orphan, hclosed, hwarned, hpulse⟩ := accumulate_reportsOrphan v (detect v ts s.clearOutputs)
    obtain ⟨hwarned', hanomaly'⟩ := detect_report v ts s.clearOutputs
    rw [acceptSample_active hv]
    exact ⟨orphan, hclosed, by rw [hwarned, hwarned'], by rw [hpulse, hwarned', hanomaly']⟩

/-- R227, R233: an edge without reset begins with `anomaly` clear and consumes at most one orphan pair. -/
theorem edgeEffect_reportsOrphan {s : State} (hno : takesReset s = false) :
    ∃ orphan, ReportsOrphan orphan s.clearOutputs (edgeEffect s) := by
  rcases edgeEffect_cases s with ⟨rest, h⟩ | ⟨hreset, _⟩ | ⟨rest, e, h⟩
  · rw [h]; exact ⟨false, nofun, by simp, by simp⟩
  · rw [hno] at hreset; exact absurd hreset (by decide)
  · obtain ⟨orphan, hclosed, hwarned, hpulse⟩ :=
      acceptSample_reportsOrphan e.sValue (portTime e s) (s.takeEdge rest)
    rw [h]
    exact ⟨orphan, hclosed, hwarned, hpulse⟩

/-- R229, R245: a pulse comes with no transaction open and with the flag set. -/
theorem ReportsOrphan.of_pulse {orphan : Bool} {s t : State} (h : ReportsOrphan orphan s t) (hs : s.anomaly = false)
    (ht : t.anomaly = true) : t.txnOpen = false ∧ t.emptyResultWarned = true := by
  obtain ⟨hclosed, hwarned, hpulse⟩ := h
  cases orphan with
  | true => exact ⟨hclosed rfl, by simp [hwarned]⟩
  | false =>
    rw [hpulse, hs] at ht
    exact absurd ht (by simp)

/-- R240: the second state of every pair of a run is the effect of one edge on the first. -/
theorem snd_of_mem_steps {n : Nat} {s : State} {st : State × State} (h : st ∈ steps n s) : st.2 = edgeEffect st.1 := by
  induction n generalizing s with
  | zero => exact absurd h List.not_mem_nil
  | succ n ih =>
    rw [steps_succ, List.mem_cons] at h
    rcases h with rfl | h
    · rfl
    · exact ih h

/-- R166: each pulse sets the flag, and once it is set there is no other. -/
theorem countP_anomaly_le (n : Nat) (s : State) (hno : ∀ st ∈ steps n s, takesReset st.1 = false) :
    (steps n s).countP (fun st => st.2.anomaly) ≤ (if s.emptyResultWarned then 0 else 1) := by
  induction n generalizing s with
  | zero => exact Nat.zero_le _
  | succ n ih =>
    rw [steps_succ, List.forall_mem_cons] at hno
    obtain ⟨hfirst, hrest⟩ := hno
    obtain ⟨orphan, _, hwarned, hpulse⟩ := edgeEffect_reportsOrphan hfirst
    have hlater := ih (edgeEffect s) hrest
    rw [steps_succ, List.countP_cons, hpulse]
    rw [hwarned] at hlater
    cases hw : s.emptyResultWarned with
    | true => simpa [hw] using hlater
    | false => cases orphan <;> simpa [hw] using hlater

/-- Settles O56: the flag and the pulse of each edge are those of `edgeEffect_reportsOrphan`; the number of pulses is by
induction on the edges, and each pulse is at one of them. -/
theorem anomalyPulsesAtMostOnce : Obligations.AnomalyPulsesAtMostOnce := by
  intro n s hno
  refine ⟨countP_anomaly_le n s hno, fun st hst hpulse => ?_⟩
  obtain ⟨orphan, h⟩ := edgeEffect_reportsOrphan (hno st hst)
  rw [← snd_of_mem_steps hst] at h
  exact h.of_pulse rfl hpulse

/-! ## The marker rows inside their guards (R161 to R164) -/

theorem exec_mkBytepairOpen {s : State} (ho : s.txnOpen = true) (m r : Byte) :
    exec (.mkBytepairOpen m r) s = .next (s.appendPair m r) := by
  have hrow := exec_bytePair_row m r s
  rwa [ho, if_pos rfl, consume_pair_open ho] at hrow

theorem exec_mkBytepairOrphan {s : State} (ho : s.txnOpen = false) (m r : Byte) :
    exec (.mkBytepairOrphan m r) s = .next s.raiseAnomaly := by
  have hrow := exec_bytePair_row m r s
  rwa [ho, if_neg Bool.false_ne_true, consume_pair_orphan ho] at hrow

theorem exec_mkDeassertEmpty {s : State} (he : txnEmpty s = true) (t : Nat) :
    exec (.mkDeassertEmpty t) s = .next s.closeTransaction := by
  have hrow := exec_deassert_row t s
  rwa [he, if_pos rfl, consume_deassert_empty he] at hrow

/-- R164, R181: the record that closing a non-empty transaction presents to the filter is `interpret`'s. -/
theorem exec_mkDeassert {s : State} (he : txnEmpty s = false) (t : Nat) :
    exec (.mkDeassert t) s = .next (s.putRecord (s.recordAt t)).closeTransaction := by
  have hrow := exec_deassert_row t s
  rwa [he, if_neg Bool.false_ne_true, consume_deassert he,
    runCommand_of_record (commandRecord_decodeCommand_eq _ _ _)] at hrow

/-- R180, R220: a row that returns a record presents it to the filter, and that is all it does. -/
theorem exec_of_commandRecord {i : Instr} {r : Record} (h : commandRecord i = some r) (s : State) :
    exec i s = .next (s.putRecord r) := by
  rw [← runCommand_of_record h]
  cases i with
  | smpIdle | smpActive1w | smpActive4w | mkAssert | mkBytepairOpen | mkBytepairOrphan | mkDeassertEmpty
  | mkDeassert => cases h
  | _ => rfl

/-- Settles O28: the state that `exec_mkDeassert` gives, field by field. -/
theorem deassertOutputsTheRecord : Obligations.DeassertOutputsTheRecord := fun s t hmosi hmiso =>
  exec_mkDeassert ((txnEmpty_eq_false_iff s).2 ⟨hmosi, hmiso⟩) t

/-- Settles O7: the decoded command row and the Deassert present the same record (`commandRecord_decodeCommand_eq`). -/
theorem deassertRunsTheDecodedCommand : Obligations.DeassertRunsTheDecodedCommand := by
  intro s u t i hmosi hmiso hdecode hexec
  obtain rfl := Except.ok.inj hdecode
  have hcommand := exec_of_commandRecord
    (commandRecord_decodeCommand_eq s.mosiBytes s.misoBytes ⟨s.transactionStartTime, t⟩) s
  obtain rfl : s.putRecord (s.recordAt t) = u := Host.Outcome.next.inj (hcommand.symm.trans hexec)
  exact exec_mkDeassert ((txnEmpty_eq_false_iff s).2 ⟨hmosi, hmiso⟩) t

/-- Settles O24: the row is `State.openTransaction`. -/
theorem assertOpensTransaction : Obligations.AssertOpensTransaction := fun _ _ => rfl

/-- Settles O25: with a transaction open the row is `State.appendPair`. -/
theorem bytePairIsAppended : Obligations.BytePairIsAppended := fun _ m r ho => exec_mkBytepairOpen ho m r

/-- Settles O26: with no transaction open the row is `State.raiseAnomaly`, whose first use differs from the later. -/
theorem orphanPairIsReportedOnce : Obligations.OrphanPairIsReportedOnce := by
  intro s m r ho
  rw [exec_mkBytepairOrphan ho]
  exact ⟨fun hw => by rw [raiseAnomaly_first hw], fun hw => by rw [raiseAnomaly_again hw]⟩

/-- Settles O27: an absent byte on either side makes the transaction empty, and the row only closes it. -/
theorem emptyDeassertGivesNoRecord : Obligations.EmptyDeassertGivesNoRecord := by
  intro s t hempty
  have he : txnEmpty s = true := by simpa [txnEmpty] using hempty
  exact exec_mkDeassertEmpty he t

end Sys2Proof.Machine
end

section
/-!
PROOFS. The interpreter (spec/43_interpreter.md): which row a transaction decodes to (R181, R183 to R191), which of its
bytes count (R193), the record each command row presents to the filter (R180, R220), and its output bundle (R194).
-/
namespace Sys2Proof

/-! ## The rows that the numbers of bytes select (R185, R190) -/

/-- R185: a read without its value byte has no value, at every address. -/
theorem decodeRead_without_value {miso : List Byte} (h : miso.length < 3) (sp : Span) (a : Byte) (args : List Byte) :
    decodeRead sp (a :: args) miso = .rdRegNa sp a := by
  rcases miso with _ | ⟨b, _ | ⟨c, _ | ⟨v, miso⟩⟩⟩
  case cons.cons.cons => simp only [List.length_cons] at h; omega
  all_goals rfl

/-- R190: a write without its value byte is too short. -/
theorem decodeWrite_short {args : List Byte} (h : args.length < 2) (sp : Span) :
    decodeWrite sp args = .errShortWr sp := by
  rcases args with _ | ⟨a, _ | ⟨w, args⟩⟩
  case cons.cons => simp only [List.length_cons] at h; omega
  all_goals rfl

/-- R190: a FIFO read without its data byte is too short. -/
theorem decodeFifo_short {miso : List Byte} (h : miso.length < 2) (sp : Span) :
    decodeFifo sp miso = .errShortFifo sp := by
  rcases miso with _ | ⟨b, _ | ⟨v, miso⟩⟩
  case cons.cons => simp only [List.length_cons] at h; omega
  all_goals rfl

/-! ## The row of each command code (R77) -/

section codes
variable (args miso : List Byte) (sp : Span)

theorem decode_read : decode (.transaction (0x0B#8 :: args) miso sp) = .ok (decodeRead sp args miso) := rfl

theorem decode_write : decode (.transaction (0x0A#8 :: args) miso sp) = .ok (decodeWrite sp args) := rfl

theorem decode_fifo : decode (.transaction (0x0D#8 :: args) miso sp) = .ok (decodeFifo sp miso) := rfl

end codes

/-! ## The bytes that do not count (R193) -/

theorem decodeRead_first_miso (sp : Span) (args miso : List Byte) (b c : Byte) :
    decodeRead sp args (b :: miso) = decodeRead sp args (c :: miso) := by
  cases args with
  | nil => rfl
  | cons a args => rcases miso with _ | ⟨_, _ | ⟨v, miso⟩⟩ <;> rfl

theorem decodeFifo_first_miso (sp : Span) (miso : List Byte) (b c : Byte) :
    decodeFifo sp (b :: miso) = decodeFifo sp (c :: miso) := by
  cases miso <;> rfl

/-- R193: `miso_bytes[0]` is read by no arm. -/
theorem decodeCommand_first_miso (mosi miso : List Byte) (b c : Byte) (sp : Span) :
    decodeCommand mosi (b :: miso) sp = decodeCommand mosi (c :: miso) sp := by
  cases mosi with
  | nil => rfl
  | cons cmd args =>
    simp only [decodeCommand, decodeRead_first_miso sp args miso b c, decodeFifo_first_miso sp miso b c]

end Sys2Proof

namespace Sys2Proof.Machine

/-- R193: bytes appended after index 2 are dropped by the bounded form, which decodes to the same row. -/
theorem decodeCommand_append {mosi miso : List Byte} (hmosi : 3 ≤ mosi.length) (hmiso : 3 ≤ miso.length)
    (mosi' miso' : List Byte) (sp : Span) :
    decodeCommand (mosi ++ mosi') (miso ++ miso') sp = decodeCommand mosi miso sp := by
  rw [← decodeCommand_take_three, List.take_append_of_le_length hmosi, List.take_append_of_le_length hmiso,
    decodeCommand_take_three]

/-! ## The whole interpreter (R181, R193) -/

/-- Settles O3: the decoder answers `decodeCommand`'s row, whose record is `commandRecord_decodeCommand_eq`'s. -/
theorem commandRowsAreInterpret : Obligations.CommandRowsAreInterpret := fun M S sp =>
  ⟨decodeCommand M S sp, rfl, commandRecord_decodeCommand_eq M S sp⟩

/-- Settles O19: the decoder reads only indices 0 to 2 (`decodeCommand_append`) and never the first MISO byte. -/
theorem ignoredBytesChangeNoRecord : Obligations.IgnoredBytesChangeNoRecord := fun M M' S S' b c sp =>
  ⟨fun hM hS => congrArg Except.ok (decodeCommand_append hM hS M' S' sp),
    congrArg Except.ok (decodeCommand_first_miso M S b c sp)⟩

/-! ## The record of each command row (R180, R183 to R191, R220) -/

section records
variable (s : State) (sp : Span)

theorem exec_rdDevid_rows (v : Byte) :
    ∀ i ∈ [Instr.rdDevid00 sp v, .rdDevid01 sp v, .rdDevid02 sp v],
      exec i s = .next (s.putRecord ⟨sp, .readDeviceId v⟩) := by
  intro i hi
  have hrec : commandRecord i = some ⟨sp, .readDeviceId v⟩ := by
    simp only [List.mem_cons, List.not_mem_nil, or_false] at hi
    rcases hi with rfl | rfl | rfl <;> rfl
  exact exec_of_commandRecord hrec s

theorem exec_rdReg (a v : Byte) : exec (.rdReg sp a v) s = .next (s.putRecord ⟨sp, .readRegister a (some v)⟩) :=
  exec_of_commandRecord rfl s

theorem exec_rdRegNa (a : Byte) : exec (.rdRegNa sp a) s = .next (s.putRecord ⟨sp, .readRegister a none⟩) :=
  exec_of_commandRecord rfl s

theorem exec_setOffsetX (w : Byte) : exec (.setOffsetX sp w) s = .next (s.putRecord ⟨sp, .setOffset .x w⟩) :=
  exec_of_commandRecord rfl s

theorem exec_setOffsetY (w : Byte) : exec (.setOffsetY sp w) s = .next (s.putRecord ⟨sp, .setOffset .y w⟩) :=
  exec_of_commandRecord rfl s

theorem exec_setOffsetZ (w : Byte) : exec (.setOffsetZ sp w) s = .next (s.putRecord ⟨sp, .setOffset .z w⟩) :=
  exec_of_commandRecord rfl s

theorem exec_wrReg (a w : Byte) : exec (.wrReg sp a w) s = .next (s.putRecord ⟨sp, .writeRegister a w⟩) :=
  exec_of_commandRecord rfl s

theorem exec_rdFifo (v : Byte) : exec (.rdFifo sp v) s = .next (s.putRecord ⟨sp, .readFifo v⟩) :=
  exec_of_commandRecord rfl s

theorem exec_error_rows (c : Byte) :
    ∀ i ∈ [Instr.errShortRd sp, .errShortWr sp, .errShortFifo sp, .errUnknown sp c, .errEmpty sp],
      exec i s = .next (s.putRecord ⟨sp, .error⟩) := by
  intro i hi
  have hrec : commandRecord i = some ⟨sp, .error⟩ := by
    simp only [List.mem_cons, List.not_mem_nil, or_false] at hi
    rcases hi with rfl | rfl | rfl | rfl | rfl <;> rfl
  exact exec_of_commandRecord hrec s

end records

/-- Settles O9: row by row, `State.putRecord` of the row's record is the update that the statement writes out. -/
theorem commandRowsComplete : Obligations.CommandRowsComplete := fun s sp a v =>
  ⟨exec_rdDevid_rows s sp v, exec_rdReg s sp a v, exec_rdRegNa s sp a, exec_setOffsetX s sp v,
    exec_setOffsetY s sp v, exec_setOffsetZ s sp v, exec_wrReg s sp a v, exec_rdFifo s sp v, exec_error_rows s sp a⟩

/-! ## From the bytes of a transaction to its record, arm by arm (R183 to R191) -/

/-- Settles O10: the three addresses are literals, so the decoder computes to their rows. -/
theorem readDeviceIdRecord : Obligations.ReadDeviceIdRecord := fun _ _ _ _ v sp s =>
  ⟨rfl, rfl, rfl, exec_rdDevid_rows s sp v⟩

/-- Settles O11: no other address is a device-ID address (`decodeRead_register`). -/
theorem readRegisterRecord : Obligations.ReadRegisterRecord := by
  intro M S a b c v sp s h0 h1 h2
  have ha : isDevIdAddr a = false := by simp [isDevIdAddr, h0, h1, h2]
  exact ⟨by rw [decode_read, decodeRead_register ha], exec_rdReg s sp a v⟩

/-- Settles O12: without the value byte the address is not tested (`decodeRead_without_value`). -/
theorem readRegisterWithoutValueRecord : Obligations.ReadRegisterWithoutValueRecord := fun M S a sp s hS =>
  ⟨by rw [decode_read, decodeRead_without_value hS], exec_rdRegNa s sp a⟩

/-- Settles O13: no other address is an offset register (`decodeWrite_register`). -/
theorem writeRegisterRecord : Obligations.WriteRegisterRecord := by
  intro M S a w sp s hx hy hz
  have ha : isOffsetAddr a = false := by simp [isOffsetAddr, hx, hy, hz]
  exact ⟨by rw [decode_write, decodeWrite_register ha], exec_wrReg s sp a w⟩

/-- Settles O14: the three addresses are literals, so the decoder computes to the row of each axis. -/
theorem setOffsetRecord : Obligations.SetOffsetRecord := fun _ _ w sp s =>
  ⟨⟨rfl, exec_setOffsetX s sp w⟩, ⟨rfl, exec_setOffsetY s sp w⟩, ⟨rfl, exec_setOffsetZ s sp w⟩⟩

/-- Settles O15: a FIFO read reads the second MISO byte and no MOSI byte after the command (`decode_fifo`). -/
theorem readFifoRecord : Obligations.ReadFifoRecord := fun M S b v sp s =>
  ⟨decode_fifo M (b :: v :: S) sp, exec_rdFifo s sp v⟩

/-- Settles O16: no other command code has an arm of its own (`decodeCommand_unknown`). -/
theorem unknownCommandRecord : Obligations.UnknownCommandRecord := by
  intro M S c sp s hwrite hread hfifo
  have hc : isCommandCode c = false := by simp [isCommandCode, hwrite, hread, hfifo]
  exact ⟨congrArg Except.ok (decodeCommand_unknown hc M S sp), exec_error_rows s sp c _ (by simp)⟩

/-- Settles O17: each command code has its own short row, and all three are error rows (`exec_error_rows`). -/
theorem shortCommandRecord : Obligations.ShortCommandRecord := by
  intro M S sp s
  refine ⟨decode_read [] S sp, fun hM => ?_, fun hS => ?_, fun i hi => ?_⟩
  · rw [decode_write, decodeWrite_short hM]
  · rw [decode_fifo, decodeFifo_short hS]
  · exact exec_error_rows s sp 0x00#8 i (List.mem_append_left [Instr.errUnknown sp 0x00#8, .errEmpty sp] hi)

/-- Settles O18: without a MOSI byte no command code is read, and the row is an error row (`exec_error_rows`). -/
theorem emptyCommandRecord : Obligations.EmptyCommandRecord := fun _ sp s =>
  ⟨rfl, exec_error_rows s sp 0x00#8 _ (by simp)⟩

/-! ## The output bundle (R194) -/

/-- Settles O59: kind by kind, `recordWires` computes to the row of R194. -/
theorem recordWiresTable : Obligations.RecordWiresTable := fun _ _ _ =>
  ⟨rfl, rfl, rfl, rfl, rfl, rfl, rfl, rfl, rfl⟩

end Sys2Proof.Machine
end

section
/-!
PROOFS. The output filter (spec/44_filter.md R220 to R226): its levels, the records that pass it at one edge, and a
simulation between runs at different verbosity, whose states differ in nothing but what the filter reads and writes.
-/
namespace Sys2Proof.Machine

/-! ## The levels (R220 to R224) -/

theorem isControl_iff (P : Params) (k : Kind) : isControl P k = true ↔ k ∈ P.controlKinds := List.contains_iff_mem

/-- Settles O20: each level of `passes` is its own test, of which `isControl_iff` reads the two on control kinds. -/
theorem filterPredicate : Obligations.FilterPredicate := fun P k =>
  ⟨rfl, by simp [passes, ← isControl_iff], by simp [passes], isControl_iff P k⟩

/-- R83, R84: no other payload has the kind Error. -/
theorem Payload.kind_eq_error_iff (p : Payload) : p.kind = .error ↔ p = .error := by
  cases p <;> simp [Payload.kind]

/-! ## The record of one edge (R164, R220) -/

theorem closePrevious_passes {tLast : Option Nat} {s : State} {r : Record} (hs : s.recOut = none)
    (h : (closePrevious tLast s).recOut = some r) : passes s.params s.verbosity r.kind = true := by
  cases tLast with
  | none => rw [closePrevious_none, hs] at h; exact nomatch h
  | some last =>
    rw [closePrevious_recOut_eq, hs] at h
    split_ifs at h with hclosed
    obtain ⟨_, _, _, hpass⟩ := hclosed
    exact Option.some.inj h ▸ hpass

theorem acceptSample_passes {v : SampleWord} {ts : Nat} {s : State} {r : Record}
    (h : (acceptSample v ts s).recOut = some r) : passes s.params s.verbosity r.kind = true := by
  cases hcs : csFlag v with
  | true => rw [acceptSample_idle hcs] at h; exact nomatch h
  | false =>
    by_cases hgap : s.fastestGap < gapOf ts s
    · obtain ⟨_, _, _, hrec⟩ := acceptSample_boundary_opens hcs hgap
      exact closePrevious_passes (s := s.clearOutputs.updateThreshold ts) rfl (hrec.symm.trans h)
    · obtain ⟨_, _, _, _, _, _, _, _, hrec, _⟩ :=
        accumulate_frame v ((s.clearOutputs.updateThreshold ts).setLastSample ts)
      rw [acceptSample_quiet hcs (Nat.le_of_not_lt hgap), hrec] at h
      exact nomatch h

/-- R164, R220: a record that an edge leaves on the output passed the filter at the verbosity before the edge. -/
theorem edgeEffect_passes {s : State} {r : Record} (h : (edgeEffect s).recOut = some r) :
    passes s.params s.verbosity r.kind = true := by
  rcases edgeEffect_cases s with ⟨rest, he⟩ | ⟨_, rest, cfg, he⟩ | ⟨rest, e, he⟩ <;> rw [he] at h
  · exact nomatch h
  · exact nomatch h
  · exact acceptSample_passes (s := s.takeEdge rest) h

/-- Settles O21: the record passed the filter (`edgeEffect_passes`), which at this level passes only the kind Error. -/
theorem onlyErrorsOutputsErrorsOnly : Obligations.OnlyErrorsOutputsErrorsOnly := by
  intro s t r hverb hstep hrec
  obtain rfl := (step_eq_iff s t).1 hstep
  obtain ⟨_, _, honlyErrors, _⟩ := filterPredicate s.params r.kind
  have hpass := edgeEffect_passes hrec
  rw [hverb] at hpass
  exact (Payload.kind_eq_error_iff r.payload).1 (honlyErrors.1 hpass)

/-- Settles O22: a record would have passed the filter (`edgeEffect_passes`), which at this level passes the control
kinds only. -/
theorem onlyControlOutputsNothing : Obligations.OnlyControlOutputsNothing := by
  intro s t hverb hnone hstep
  obtain rfl := (step_eq_iff s t).1 hstep
  refine Option.eq_none_iff_forall_ne_some.2 fun r hrec => ?_
  obtain ⟨_, _, _, honlyControl⟩ := filterPredicate s.params r.kind
  have hpass := edgeEffect_passes hrec
  rw [hverb, honlyControl, hnone] at hpass
  exact absurd hpass List.not_mem_nil

/-! ## Another verbosity (R225, R226) -/

/-- `s` with another verbosity and another record output: what the filter reads, but for the parameters, and writes. -/
def State.withFilter (vb : Verbosity) (rec : Option Record) (s : State) : State :=
  { s with verbosity := vb, recOut := rec }

section withFilter
variable (vb : Verbosity) (rec : Option Record)

theorem clockSingle_withFilter (v : SampleWord) (s : State) :
    clockSingle v (s.withFilter vb rec) = (clockSingle v s).withFilter vb rec := by
  rw [clockSingle_eq v s, apply_ite (State.withFilter vb rec)]
  exact clockSingle_eq v (s.withFilter vb rec)

theorem clockQuad_withFilter (p : Nat) (v : SampleWord) (s : State) :
    clockQuad p v (s.withFilter vb rec) = (clockQuad p v s).withFilter vb rec := by
  rw [clockQuad_eq p v s, apply_ite (State.withFilter vb rec)]
  exact clockQuad_eq p v (s.withFilter vb rec)

/-- R225: a data clock neither reads the verbosity nor touches the record output. -/
theorem accumulate_withFilter (v : SampleWord) (s : State) :
    accumulate v (s.withFilter vb rec) = (accumulate v s).withFilter vb rec := by
  rcases accumulate_cases v s with ⟨hsingle, h⟩ | ⟨p, hq, hp, h⟩
  · rw [h, accumulate_single (s := s.withFilter vb rec) hsingle, clockSingle_withFilter]; rfl
  · rw [h, accumulate_quad (s := s.withFilter vb rec) hq hp, clockQuad_withFilter]; rfl

/-- R225: of what a boundary does, only the record output depends on the verbosity. -/
theorem crossBoundary_withFilter (tLast : Option Nat) (ts : Nat) (s : State) :
    ∃ rec', crossBoundary tLast ts (s.withFilter vb rec) = (crossBoundary tLast ts s).withFilter vb rec' := by
  cases hc : s.continuousMode with
  | false => rw [crossBoundary_restart hc, crossBoundary_restart (s := s.withFilter vb rec) hc]; exact ⟨_, rfl⟩
  | true => rw [crossBoundary_resume hc, crossBoundary_resume (s := s.withFilter vb rec) hc]; exact ⟨_, rfl⟩

theorem detect_withFilter (v : SampleWord) (ts : Nat) (s : State) :
    ∃ rec', detect v ts (s.withFilter vb rec) = (detect v ts s).withFilter vb rec' := by
  have hcongr : isBoundary v ts (s.withFilter vb rec) = isBoundary v ts s := isBoundary_congr rfl rfl
  cases hb : isBoundary v ts s with
  | false => rw [detect_no_boundary hb, detect_no_boundary (hcongr.trans hb)]; exact ⟨rec, rfl⟩
  | true =>
    obtain ⟨rec', hcross⟩ := crossBoundary_withFilter vb rec s.lastSampleTime ts (s.updateThreshold ts)
    rw [detect_boundary hb, detect_boundary (hcongr.trans hb)]
    exact ⟨rec', congrArg (State.setLastSample ts) hcross⟩

theorem acceptSample_withFilter (v : SampleWord) (ts : Nat) (s : State) :
    ∃ rec', acceptSample v ts (s.withFilter vb rec) = (acceptSample v ts s).withFilter vb rec' := by
  cases hcs : csFlag v with
  | true => rw [acceptSample_idle hcs, acceptSample_idle hcs]; exact ⟨none, rfl⟩
  | false =>
    obtain ⟨rec', hdetect⟩ := detect_withFilter vb none v ts s.clearOutputs
    rw [acceptSample_active hcs, acceptSample_active hcs]
    exact ⟨rec', (congrArg (accumulate v) hdetect).trans (accumulate_withFilter vb rec' v _)⟩

/-- R225, the step of the simulation: states that differ in verbosity and record output take an edge to such states.
A reset edge latches one verbosity for both (R272). -/
theorem edgeEffect_withFilter (s : State) :
    ∃ vb' rec', edgeEffect (s.withFilter vb rec) = (edgeEffect s).withFilter vb' rec' := by
  have hinput : (s.withFilter vb rec).input = s.input := rfl
  cases hi : s.input with
  | nil => simp only [edgeEffect, hinput, hi]; exact ⟨vb, none, rfl⟩
  | cons e rest =>
    simp only [edgeEffect, hinput, hi]
    split_ifs
    · exact ⟨verbosityOf e.cfgVerbosity, none, rfl⟩
    · exact ⟨vb, acceptSample_withFilter vb rec e.sValue (portTime e s) (s.takeEdge rest)⟩
    · exact ⟨vb, none, rfl⟩

/-- R225: the simulation over a whole run. -/
theorem iterate_edgeEffect_withFilter (n : Nat) (s : State) :
    ∃ vb' rec', edgeEffect^[n] (s.withFilter vb rec) = (edgeEffect^[n] s).withFilter vb' rec' := by
  induction n generalizing vb rec s with
  | zero => exact ⟨vb, rec, rfl⟩
  | succ n ih =>
    obtain ⟨vb', rec', hedge⟩ := edgeEffect_withFilter vb rec s
    rw [Function.iterate_succ_apply, Function.iterate_succ_apply, hedge]
    exact ih vb' rec' (edgeEffect s)

end withFilter

/-- Settles O23: both runs complete (`run_eq_iterate`), and their ends differ in verbosity and record output only. -/
theorem verbosityChangesOnlyRecords : Obligations.VerbosityChangesOnlyRecords := by
  intro n s t vb hrun
  obtain rfl : edgeEffect^[n] s = t := Host.Outcome.next.inj ((run_eq_iterate n s).symm.trans hrun)
  obtain ⟨vb', rec', hend⟩ := iterate_edgeEffect_withFilter vb s.recOut n s
  refine ⟨_, run_eq_iterate n (s.withFilter vb s.recOut), ?_⟩
  rw [hend]
  rfl

end Sys2Proof.Machine
end

section
/-!
PROOFS. The edges of a run (spec/45_step.md): an edge without a sample holds the state (R233), and only an edge that
emits a Deassert outputs a record (R104, R164), so a run outputs at most as many records as it emits Deasserts (R230).
-/
namespace Sys2Proof.Machine

/-! ## An edge without a sample (R233) -/

/-- R233: without reset and without a sample, the edge is used up and the state is held. -/
theorem edgeEffect_no_sample {s : State} {e : Edge} {rest : List Edge} (hi : s.input = e :: rest) (hr : e.rst = false)
    (hv : e.sValid = false) : edgeEffect s = holdEdge (s.takeEdge rest) := by
  simp [edgeEffect, hi, hr, hv]

/-- Settles O51: the edge holds the state (`edgeEffect_no_sample`), with the two output strobes cleared. -/
theorem edgeWithoutSampleHoldsTheState : Obligations.EdgeWithoutSampleHoldsTheState := by
  intro s v ts cfg rest hi
  rw [step_eq_iff, edgeEffect_no_sample hi rfl rfl]
  rfl

/-! ## A record needs a Deassert (R104, R164) -/

/-- R103, R104: a sample that outputs a record is a boundary, and not the first one. -/
theorem acceptSample_closes_of_recOut {v : SampleWord} {ts : Nat} {s : State}
    (h : (acceptSample v ts s).recOut.isSome = true) : isBoundary v ts s = true ∧ 0 < s.transactionCount := by
  cases hcs : csFlag v with
  | true => rw [acceptSample_idle hcs] at h; exact nomatch h
  | false =>
    by_cases hgap : s.fastestGap < gapOf ts s
    · refine ⟨boundary_of_lt hgap hcs, Nat.pos_of_ne_zero fun hfirst => ?_⟩
      obtain ⟨_, _, _, hrec⟩ := acceptSample_boundary_opens hcs hgap
      rw [hrec, closePrevious_first (s := s.clearOutputs.updateThreshold ts) hfirst] at h
      exact nomatch h
    · obtain ⟨_, _, _, _, _, _, _, _, hrec, _⟩ :=
        accumulate_frame v ((s.clearOutputs.updateThreshold ts).setLastSample ts)
      rw [acceptSample_quiet hcs (Nat.le_of_not_lt hgap), hrec] at h
      exact nomatch h

/-- R104, R164, R233, R271: an edge that outputs a record emits a Deassert. A reset edge and an edge without a sample
clear the record output. -/
theorem takesDeassert_of_recOut {s : State} (h : (edgeEffect s).recOut.isSome = true) : takesDeassert s = true := by
  cases hi : s.input with
  | nil => simp [edgeEffect, hi, holdEdge] at h
  | cons e rest =>
    cases hr : e.rst with
    | true => rw [edgeEffect_reset hi hr] at h; exact nomatch h
    | false =>
      cases hv : e.sValid with
      | false => rw [edgeEffect_no_sample hi hr hv] at h; exact nomatch h
      | true =>
        rw [edgeEffect_sample hi hr hv] at h
        obtain ⟨hboundary, hcount⟩ := acceptSample_closes_of_recOut h
        have hboundary' : isBoundary e.sValue (portTime e s) s = true := (isBoundary_congr rfl rfl).symm.trans hboundary
        rw [takesDeassert, takesBoundary_sample hi hr hv, hboundary']
        exact decide_eq_true hcount

/-- Settles O57: the records of a run are counted by its edges with a record output, and each of these edges emits a
Deassert (`takesDeassert_of_recOut`). -/
theorem recordsAreAtMostTheDeasserts : Obligations.RecordsAreAtMostTheDeasserts := by
  intro n s
  rw [recordsOut, List.length_filterMap_eq_countP]
  refine List.countP_mono_left fun st hst hrec => takesDeassert_of_recOut ?_
  rwa [snd_of_mem_steps hst] at hrec

end Sys2Proof.Machine
end

section
/-!
PROOFS. No exception halts, stalls or redirects the block (spec/60_exceptions.md).
-/
namespace Sys2Proof.Machine

/-- Settles O48: a reset edge, an accepted sample and an edge without a sample all answer the next state that
`edgeEffect` writes out (`step_eq`), since the sample decoder and the three sample rows are total. -/
theorem everyEdgeIsProcessed : Obligations.EveryEdgeIsProcessed :=
  fun s => ⟨edgeEffect s, step_eq s⟩

end Sys2Proof.Machine
end

section
/-!
PROOFS. Reset and the configuration inputs (spec/70_reset_and_hazards.md): what a reset edge loads (R270, R271), and
that `cfg_verbosity` is read at a reset edge only (R272, R278).
-/
namespace Sys2Proof.Machine

/-- R278: a step without reset does not read `cfg_verbosity`. -/
theorem edgeEffect_ignores_cfgVerbosity {s : State} {e : Edge} {rest : List Edge} (hi : s.input = e :: rest)
    (hr : e.rst = false) (cfg : BitVec 2) :
    edgeEffect { s with input := { e with cfgVerbosity := cfg } :: rest } = edgeEffect s := by
  rcases Bool.eq_false_or_eq_true e.sValid with hv | hv
  · rw [edgeEffect_sample hi hr hv]
    exact edgeEffect_sample (e := { e with cfgVerbosity := cfg }) rfl hr hv
  · rw [edgeEffect_no_sample hi hr hv]
    exact edgeEffect_no_sample (e := { e with cfgVerbosity := cfg }) rfl hr hv

/-- R25, R272: an edge without reset holds the configuration, as it holds the state or accepts a sample. -/
theorem edgeEffect_configuration {s : State} (hno : takesReset s = false) :
    (edgeEffect s).params = s.params ∧ (edgeEffect s).verbosity = s.verbosity ∧
      (edgeEffect s).continuousMode = s.continuousMode := by
  rcases edgeEffect_cases s with ⟨rest, h⟩ | ⟨hreset, _⟩ | ⟨rest, e, h⟩
  · rw [h]; exact ⟨rfl, rfl, rfl⟩
  · rw [hno] at hreset; exact absurd hreset Bool.false_ne_true
  · obtain ⟨hparams, hmode, hverb, _⟩ := acceptSample_frame e.sValue (portTime e s) (s.takeEdge rest)
    rw [h]
    exact ⟨hparams, hverb, hmode⟩

/-- Settles O52: the edge does not read `cfg_verbosity` (`edgeEffect_ignores_cfgVerbosity`) and holds the configuration
(`edgeEffect_configuration`). -/
theorem configurationIsFixedBetweenResets : Obligations.ConfigurationIsFixedBetweenResets := by
  intro s e rest cfg hi hr
  have hno : takesReset s = false := by simp [takesReset, hi, hr]
  refine ⟨?_, edgeEffect s, step_eq s, edgeEffect_configuration hno⟩
  rw [step_eq, step_eq, edgeEffect_ignores_cfgVerbosity hi hr]

/-- Settles O50: the edge loads the reset values (`edgeEffect_reset`) over the state whose input it used up, and the
four codes are those of R85. -/
theorem resetEdgeLoadsTheResetValues : Obligations.ResetEdgeLoadsTheResetValues := by
  intro s rest valid v ts cfg hi
  have hstep : step s = .next ((s.takeEdge rest).loadReset cfg) := (step_eq_iff s _).2 (edgeEffect_reset hi rfl)
  exact ⟨hstep, rfl, rfl, rfl, rfl⟩

end Sys2Proof.Machine
end

section
/-!
PROOFS. The marker rows outside their guards (spec/42_assembler.md R161 to R164, log entry 10): where the guard of its
rule is false, each assembler rule leaves the state as it is.
-/
namespace Sys2Proof.Machine

/-- R163: a transaction is empty when either sequence has no entry. -/
theorem txnEmpty_eq_true_iff (s : State) : txnEmpty s = true ↔ s.mosiBytes = [] ∨ s.misoBytes = [] := by
  simp [txnEmpty]

theorem onPair_of_closed {s : State} (h : s.txnOpen = false) (m r : Byte) : onPair m r s = s := by
  simp [onPair, h]

theorem onPairOrphan_of_open {s : State} (h : s.txnOpen = true) (m r : Byte) : onPairOrphan m r s = s := by
  simp [onPairOrphan, h]

theorem onDeassertEmpty_of_nonempty {s : State} (h : txnEmpty s = false) (t : Nat) : onDeassertEmpty t s = s := by
  simp [onDeassertEmpty, h]

theorem onDeassert_of_empty {s : State} (h : txnEmpty s = true) (t : Nat) : onDeassert t s = s := by
  simp [onDeassert, h]

/-- Settles O29: each row answers next with its assembler rule's state, which is `s` itself outside the guard. -/
theorem markerRowsKeepTheirGuards : Obligations.MarkerRowsKeepTheirGuards := by
  intro s m r t
  refine ⟨fun hclosed => ?pair, fun hopen => ?orphan, fun hmosi hmiso => ?deassertEmpty, fun hempty => ?deassert⟩
  case pair => exact congrArg Host.Outcome.next (onPair_of_closed hclosed m r)
  case orphan => exact congrArg Host.Outcome.next (onPairOrphan_of_open hopen m r)
  case deassertEmpty =>
    have hne : txnEmpty s = false := (txnEmpty_eq_false_iff s).2 ⟨hmosi, hmiso⟩
    exact congrArg Host.Outcome.next (onDeassertEmpty_of_nonempty hne t)
  case deassert =>
    have he : txnEmpty s = true := (txnEmpty_eq_true_iff s).2 hempty
    exact congrArg Host.Outcome.next (onDeassert_of_empty he t)

end Sys2Proof.Machine
end

section
/-!
PROOFS. The state right after reset (spec/70_reset_and_hazards.md R270) at the default parameters of R6.
-/
namespace Sys2Proof.Machine

/-- R270: a reset edge with `cfg_verbosity` = 0 loads the reset state again, so each of its fields is what
`State.loadReset` puts there. -/
theorem State.loadReset_reset : State.reset.loadReset 0 = State.reset := rfl

theorem State.reset_params : State.reset.params = Params.default := rfl

theorem Params.default_fastestGapInit : Params.default.fastestGapInit = 2 ^ 64 - 1 := rfl

theorem Params.default_contModeInit : Params.default.contModeInit = false := rfl

/-- Settles O49: the reset state is a reset edge's (`State.loadReset_reset`), whose field lemmas give the values of R270;
the two that are parameters are the defaults of R6. -/
theorem resetState : Obligations.ResetState := by
  unfold Obligations.ResetState
  rw [← State.loadReset_reset]
  simp [State.reset_params, Params.default_fastestGapInit, Params.default_contModeInit]

end Sys2Proof.Machine
end
